-- ==== Sys2Proof/Word.lean ====
section
/-!
DEFINITION. The words of the block: one bit-vector type for each width that the spec treats as bits.

Rules: spec/00_scope.md R11 (numbers, bit 0 the least significant), spec/30_encoding.md R80, R84, R92, R93.
Everything here is unsigned; the hardware has no signed quantity (R11).
-/

namespace Sys2Proof

/-- The Code Word, "the unit of transmission" (R84): bits 31..16 the command field, bits 15..0 the address field. -/
abbrev CodeWord := BitVec 32

/-- One 16-bit operand of SEND at the port, or one 16-bit field of the Code Word (R83, R84). -/
abbrev Field := BitVec 16

/-- The 34-bit host command word of format H (R80). -/
abbrev CommandWord := BitVec 34

/-- The two bits `cmd_op` that select a host operation (R81). -/
abbrev OpCode := BitVec 2

/-- The 3-bit phase code of format P (R92). -/
abbrev PhaseCode := BitVec 3

/-- The 2-bit step code of format G (R93). -/
abbrev StepCode := BitVec 2

end Sys2Proof
end

