-- ==== Sys2Proof/Config.lean ====
section
/-!
DEFINITION. What the spec leaves to the platform: the three OPEN parameters of a run.

Rules: spec/00_scope.md R6, spec/10_state.md R41, R44, spec/43_system_step.md R182,
spec/92_eei_decisions.md D2 and D21, spec/93_implementation_defined.md U3 and U4.
"A model of this spec takes three arguments and nothing else is left open."

The three stand together in `Params`, which the machine's state carries and no cycle changes, so that a
statement about every state is a statement about every choice of them. For the state after reset the three
are the constants below, which have no body: nothing can be proved of their values. See notes/assumptions/2.md.
-/

namespace Sys2Proof

/-- The platform's parameters, constants of a run (R44). -/
structure Params where
  /-- `CAR_PHASE`, 0..4: the value of `car_div` at which a base cycle is a carrier clock (R41). -/
  carPhase : Fin 5
  /-- `TICK_PHASE`, 0..37: the value of `tick_div` at which a base cycle is a tick (R41). -/
  tickPhase : Fin 38
  /-- `CFG_OK`: whether the platform achieved both engine clock rates (R200). -/
  cfgOk : Bool
deriving DecidableEq, Repr

/-- `CAR_PHASE` of the platform, open (D2). -/
opaque Config.carPhase : Fin 5

/-- `TICK_PHASE` of the platform, open (D2). -/
opaque Config.tickPhase : Fin 38

/-- `CFG_OK` of the platform, open (D21). -/
opaque Config.cfgOk : Bool

/-- The platform the machine is reset on: all three parameters open. -/
def Config.params : Params :=
  { carPhase := Config.carPhase, tickPhase := Config.tickPhase, cfgOk := Config.cfgOk }

end Sys2Proof
end

