-- ==== Sys2Proof/Machine/State.lean ====
section
/-!
DEFINITION. The machine's state: the seventeen elements of spec/10_state.md R20, one field each, and two fields of
the model's own. No element is hardwired, aliased or banked (R33).

Rules: spec/10_state.md R20 to R37, R41, R43, R44; spec/00_scope.md R14; spec/70_reset_and_hazards.md R220, R221.
The block has no addressable memory (spec/20_memory.md R60), so there is no memory here: the Transmission Queue
(`qFull`, `qWord`) is all the storage that agents share, beside the Signal.
-/

namespace Sys2Proof.Machine

/-- The Signal (R14, R24): `CLEARED` = 0 is the carrier enabled, `SET` = 1 the carrier disabled. -/
inductive Signal where
  | cleared
  | set
deriving DecidableEq, Repr

/-- The level of the output pin (R14, R37): `LOW` = 0 is the inactive level, LED off; `HIGH` = 1, LED on. -/
inductive Level where
  | low
  | high
deriving DecidableEq, Repr

/-- The seven codes `ps_phase` can hold (R34). Code 7 is never produced and cannot be written here (R96). -/
inductive Phase where
  | idle
  | leaderPulse
  | leaderSpace
  | bitPulse
  | bitSpace
  | stopBit
  | gap
deriving DecidableEq, Repr

/-- The three codes `cg_step` can hold (R35). Code 3 is never produced and cannot be written here (R96). -/
inductive CgStep where
  | low
  | wait
  | high
deriving DecidableEq, Repr

/-- The inputs of one base cycle: `inputs(t)` of R183, the ports of R38 but for the clock. -/
structure Inputs where
  /-- `rst`, synchronous, active high (R220). -/
  rst : Bool
  /-- `cmd_valid` (R82). -/
  valid : Bool
  /-- `cmd_op` (R81). -/
  op : BitVec 2
  /-- `cmd_address` (R83). -/
  address : BitVec 16
  /-- `cmd_command` (R83). -/
  command : BitVec 16
deriving DecidableEq, Repr

/-- A base cycle in which the host does nothing: no reset and no command presented. DESIGN CHOICE: the spec leaves
the other inputs of such a cycle open; here they are 0. The operation code 0 is seen at one port: with it `cmd_ready`
is 1 even while the slot is full (R82, R186). See notes/assumptions/17.md. -/
def quietInputs : Inputs := { rst := false, valid := false, op := 0#2, address := 0#16, command := 0#16 }

/-- The whole state. The first seventeen fields are the spec's; the last two are the model's own. -/
structure State where
  /-- `active`, 1 bit (R21): both engines run. -/
  active : Bool
  /-- `cfg_err`, 1 bit, sticky (R22). -/
  cfgErr : Bool
  /-- `q_full`, 1 bit (R23): the slot holds a Code Word not yet fully drained. -/
  qFull : Bool
  /-- `sig`, 1 bit, the Signal (R24, R25). -/
  sig : Signal
  /-- `q_word`, 32 bits (R26): the Code Word in the slot. -/
  qWord : BitVec 32
  /-- `osr`, 32 bits (R27): the output shift register. -/
  osr : BitVec 32
  /-- `bits_left`, 6 bits (R28): bits not yet drained. -/
  bitsLeft : BitVec 6
  /-- `cur_bit`, 1 bit (R29): the bit most recently drained. -/
  curBit : Bool
  /-- `ps_cnt`, 9 bits (R30): ticks left in the phase, counting the one in progress. -/
  psCnt : BitVec 9
  /-- `gap_outer`, 2 bits (R31). -/
  gapOuter : BitVec 2
  /-- `gap_inner`, 5 bits (R31). -/
  gapInner : BitVec 5
  /-- `cg_cnt`, 3 bits (R32): carrier clocks left in the step, counting the one in progress. -/
  cgCnt : BitVec 3
  /-- `ps_phase`, 3 bits (R34): the ProtocolSequencer's position. -/
  psPhase : Phase
  /-- `cg_step`, 2 bits (R35): the CarrierGenerator's position. -/
  cgStep : CgStep
  /-- `pin`, 1 bit (R37): the level last driven on the output pin. -/
  pin : Level
  /-- `car_div`, 3 bits, 0..4 (R41). -/
  carDiv : BitVec 3
  /-- `tick_div`, 6 bits, 0..37 (R41). -/
  tickDiv : BitVec 6
  /-- The platform's parameters (R44), constants of a run: no cycle writes them. The model's own field. -/
  params : Params
  /-- The inputs of the base cycles to come, this cycle's first (R44: the host's command stream); after the last
  of them the host is quiet. The model's own field. -/
  inputs : List Inputs
deriving DecidableEq, Repr

/-- The state after reset on a given platform: the table of R43. -/
def State.resetWith (p : Params) : State :=
  { active := false
    cfgErr := false
    qFull := false
    sig := .set
    qWord := 0#32
    osr := 0#32
    bitsLeft := 0#6
    curBit := false
    psCnt := 0#9
    gapOuter := 0#2
    gapInner := 0#5
    cgCnt := 4#3
    psPhase := .idle
    cgStep := .low
    pin := .low
    carDiv := 0#3
    tickDiv := 0#6
    params := p
    inputs := [] }

/-- The machine right after reset (R43, R220): every element at the table's value, on a platform whose three open
parameters have no value that a proof could use, before a host that has not yet acted. -/
def State.reset : State := State.resetWith Config.params

/-- Why the machine could stop. It never does: "the step function is total and deterministic: for every state and
every input it gives exactly one next state" (R185). The one error, ConfigError, is an exception that ACTIVATE
takes: it sets `cfg_err` and the machine goes on (R200, and Program 6 of spec/95_test_vectors.md), so it is a next
state and no constructor here. An empty type is safe: no run can be cut short by it. -/
inductive Fault where
deriving DecidableEq, Repr

/-- Why an instruction could have no meaning. -/
inductive Refusal where
  /-- An instruction the model gives no meaning. Nothing raises it: every arm of `exec` has a meaning. Safe: it
  would stop the run. -/
  | notModelled (mnemonic : String)
deriving DecidableEq, Repr

end Sys2Proof.Machine
end

