-- ==== Sys2Proof/Machine/Timing.lean ====
section
/-!
DEFINITION. The constants of the duration table and the two clock dividers.

Rules: spec/00_scope.md R6, R8, R9, R12; spec/10_state.md R41; spec/43_system_step.md R180, R181;
spec/41_protocol_sequencer.md R129, R141 (84 and not 85), R145 (2 x 25 x 140); spec/40_carrier_generator.md R110
to R113 (4, 1, 5). Each duration has the width of the counter that holds it (R30 to R32). Durations are counted in
ticks or in carrier clocks and never in seconds (R237). `CG_WAIT_CLKS` = 1 loads no counter: the wait step costs
the one carrier clock at which it finds the Signal cleared (R112).
-/

namespace Sys2Proof.Machine

/-- `BASE_PER_CAR`: base cycles to a carrier clock, 1 900 000 / 380 000. -/
abbrev basePerCar : Nat := 5

/-- `BASE_PER_TICK`: base cycles to a tick, 1 900 000 / 50 000. -/
abbrev basePerTick : Nat := 38

/-- `WORD_BITS`. -/
abbrev wordBits : BitVec 6 := 32#6

/-- `T_LEADER_PULSE`: 450 ticks, 9000 us. -/
abbrev tLeaderPulse : BitVec 9 := 450#9

/-- `T_LEADER_SPACE`: 225 ticks, 4500 us. -/
abbrev tLeaderSpace : BitVec 9 := 225#9

/-- `T_BIT_PULSE`: 28 ticks, 560 us. -/
abbrev tBitPulse : BitVec 9 := 28#9

/-- `T_SPACE_0`: 28 ticks, 560 us. -/
abbrev tSpace0 : BitVec 9 := 28#9

/-- `T_SPACE_1`: 84 ticks, 1680 us (R141). -/
abbrev tSpace1 : BitVec 9 := 84#9

/-- `T_STOP`: 28 ticks, 560 us. -/
abbrev tStop : BitVec 9 := 28#9

/-- `GAP_OUTER`: 2 iterations. -/
abbrev gapOuterIterations : BitVec 2 := 2#2

/-- `GAP_INNER`: 25 iterations. -/
abbrev gapInnerIterations : BitVec 5 := 25#5

/-- `GAP_BODY`: 140 ticks, 2800 us. -/
abbrev gapBody : BitVec 9 := 140#9

/-- `CG_LOW_CLKS`: 4 carrier clocks. -/
abbrev cgLowClks : BitVec 3 := 4#3

/-- `CG_HIGH_CLKS`: 5 carrier clocks. -/
abbrev cgHighClks : BitVec 3 := 5#3

/-- `car_en(t)`: this base cycle is a carrier clock (R41). -/
def carEn (s : State) : Bool := s.carDiv.toNat == s.params.carPhase.val

/-- `tick_en(t)`: this base cycle is a tick (R41). -/
def tickEn (s : State) : Bool := s.tickDiv.toNat == s.params.tickPhase.val

/-- `(car_div + 1) mod 5` (R183). -/
def nextCarDiv (d : BitVec 3) : BitVec 3 := BitVec.ofNat 3 ((d.toNat + 1) % basePerCar)

/-- `(tick_div + 1) mod 38` (R183). -/
def nextTickDiv (d : BitVec 6) : BitVec 6 := BitVec.ofNat 6 ((d.toNat + 1) % basePerTick)

/-- Part 4 of R183: both dividers advance, whether or not the engines are active (R41). -/
def advanceDividers (s : State) : State :=
  { s with carDiv := nextCarDiv s.carDiv, tickDiv := nextTickDiv s.tickDiv }

end Sys2Proof.Machine
end

