-- ==== Sys2Proof/Machine/Flags.lean ====
section
/-!
DEFINITION. The conditions that steer the block: the table of spec/10_state.md R36, whole.

The block has no arithmetic condition codes (R36); no operation writes a flag as a side effect beyond what the
operations of Machine/Ops.lean say.
-/

namespace Sys2Proof.Machine

/-- "Signal cleared": tested by CG_WAIT (R112). -/
def signalCleared (s : State) : Bool := decide (s.sig = .cleared)

/-- "Queue not empty": tested by IDLE (R130) and by `cmd_ready` (R82). -/
def queueNotEmpty (s : State) : Bool := s.qFull

/-- "Output register empty": the count of shifts, never the value of `osr` (R28, R142). -/
def outputRegisterEmpty (s : State) : Bool := decide (s.bitsLeft = 0#6)

/-- "Phase over", negated: the phase counts on at this tick (R131). -/
def phaseCounting (s : State) : Bool := decide (1#9 < s.psCnt)

/-- "Step over", negated: the step counts on at this carrier clock (R111, R113). -/
def stepCounting (s : State) : Bool := decide (1#3 < s.cgCnt)

/-- The Gap's inner loop has another iteration to run (R145). -/
def innerLoopCounting (s : State) : Bool := decide (1#5 < s.gapInner)

/-- The Gap's outer loop has another iteration to run (R145). -/
def outerLoopCounting (s : State) : Bool := decide (1#2 < s.gapOuter)

/-- "Running": both engines run (R21). -/
def running (s : State) : Bool := s.active

/-- "Failed": a configuration error is latched (R22). -/
def failed (s : State) : Bool := s.cfgErr

end Sys2Proof.Machine
end

