-- ==== Sys2Proof/Machine/Operands.lean ====
section
/-!
DEFINITION. Operand assembly: the field rule, the Code Word, and the bit the serializer sends next.

Rules: spec/30_encoding.md R84 to R88, R102; spec/41_protocol_sequencer.md R136, R137, R140;
spec/42_controller_operations.md R166, R169; spec/20_memory.md R65.
-/

namespace Sys2Proof.Machine

/-- `field16` (R85): a value that fits in 8 bits becomes its complement byte above the byte itself; a larger value
is kept verbatim. -/
def field16 (v : Field) : Field :=
  if v ≤ 0x00FF#16 then (~~~ v.extractLsb' 0 8) ++ v.extractLsb' 0 8 else v

/-- The Code Word of an address and a command (R84): the two fields are encoded independently. -/
def codeWord (address command : Field) : CodeWord := field16 command ++ field16 address

/-- Bits 15..0 of a Code Word, sent first (R86). -/
def addressField (w : CodeWord) : Field := w.extractLsb' 0 16

/-- Bits 31..16 of a Code Word, sent after the address field (R86). -/
def commandField (w : CodeWord) : Field := w.extractLsb' 16 16

/-- The next bit to send: bit 0 of the output shift register (R27). -/
def nextBit (s : State) : Bool := s.osr.getLsbD 0

/-- The length of the space that follows a bit, in ticks: the only place the data changes the timing (R140). -/
def spaceTicks (b : Bool) : BitVec 9 := if b then tSpace1 else tSpace0

end Sys2Proof.Machine
end

