-- ==== Sys2Proof/Machine/Ops.lean ====
section
/-!
DEFINITION. The named operations over the state, shared by the meanings of the instructions.

Rules: spec/00_scope.md R13 (the pseudocode primitives), spec/20_memory.md R62 to R64 and R68,
spec/41_protocol_sequencer.md R131, R133, spec/42_controller_operations.md R162, R164,
spec/60_exceptions.md R200, R205 to R207, spec/70_reset_and_hazards.md R220.
The primitives `MemRead` and `MemWrite` are used by no rule (R60) and have no operation here.
-/

namespace Sys2Proof.Machine

/-! ### The Transmission Queue -/

/-- `QueueWrite(w)` (R62): all 32 bits and the occupancy bit at once. -/
def queueWrite (s : State) (w : CodeWord) : State := { s with qWord := w, qFull := true }

/-- `QueueRead()` (R63): the word, with no side effect. -/
def queueRead (s : State) : CodeWord := s.qWord

/-- `QueueRelease()` (R64): the slot is free and `q_word` keeps its old bits. -/
def queueRelease (s : State) : State := { s with qFull := false }

/-! ### The Signal and the pin -/

/-- The write of the Signal, by the ProtocolSequencer only (R25, R133). -/
def signalWrite (s : State) (v : Signal) : State := { s with sig := v }

/-- The CarrierGenerator drives the pin (R37). -/
def drivePin (s : State) (l : Level) : State := { s with pin := l }

/-! ### The serializer and the sequencer's counters -/

/-- `osr` takes a whole Code Word, with 32 bits to drain (R130). -/
def loadShiftRegister (s : State) (w : CodeWord) : State := { s with osr := w, bitsLeft := wordBits }

/-- One bit is drained, least significant first, a zero entering at bit 31 (R136). -/
def shiftOut (s : State) : State :=
  { s with osr := s.osr >>> 1, bitsLeft := s.bitsLeft - 1#6, curBit := nextBit s }

/-- The transfer to a phase of so many ticks (R131). -/
def enterPhase (s : State) (p : Phase) (ticks : BitVec 9) : State := { s with psPhase := p, psCnt := ticks }

/-- One tick counted off (R131). -/
def countTick (s : State) : State := { s with psCnt := s.psCnt - 1#9 }

/-- A timed phase at a tick: it counts, or at its last tick makes its transfer (R131). -/
def timedPhase (s transfer : State) : State := if phaseCounting s then countTick s else transfer

/-- The Gap's two loop counters take the given values (R31). -/
def setGapLoops (s : State) (outer : BitVec 2) (inner : BitVec 5) : State :=
  { s with gapOuter := outer, gapInner := inner }

/-- Another body of the Gap begins (R145). -/
def reloadGapBody (s : State) : State := { s with psCnt := gapBody }

/-! ### The CarrierGenerator's counter -/

/-- The transfer to a step of so many carrier clocks (R111 to R113). -/
def enterStep (s : State) (g : CgStep) (clocks : BitVec 3) : State := { s with cgStep := g, cgCnt := clocks }

/-- One carrier clock counted off (R111, R113). -/
def countClock (s : State) : State := { s with cgCnt := s.cgCnt - 1#3 }

/-! ### Lifecycle -/

/-- Both engines start from wherever their registers stand (R162). -/
def startEngines (s : State) : State := { s with active := true }

/-- Both engines stop and their own registers return to the initial values; the Signal, the pin, the slot and
`cfg_err` are not touched (R164). -/
def stopEngines (s : State) : State :=
  { s with
    active := false
    psPhase := .idle
    psCnt := 0#9
    osr := 0#32
    bitsLeft := 0#6
    curBit := false
    gapOuter := 0#2
    gapInner := 0#5
    cgStep := .low
    cgCnt := cgLowClks }

/-! ### Taking the one exception, and the way back -/

/-- `raise ConfigError` (R13, R200): the sticky bit is set and nothing else changes. No program counter and no
status is saved and control goes nowhere, "since nothing is running when it is raised" (R205). -/
def raiseConfigError (s : State) : State := { s with cfgErr := true }

/-- Reset in a base cycle (R220): every element takes its value of R43. It is the only way back from a
ConfigError: "after a ConfigError the only way back is reset" (R207). The platform and the host's later inputs are
no elements of the block and stay. -/
def takeReset (s : State) : State := { State.resetWith s.params with inputs := s.inputs }

/-! ### The inputs -/

/-- The base cycle's inputs are spent. -/
def consumeInputs (s : State) : State := { s with inputs := s.inputs.tail }

/-- The end of a base cycle without reset: the dividers advance (R183 part 4) and the inputs are spent. -/
def endCycle (s : State) : State := consumeInputs (advanceDividers s)

/-- One part of a base cycle after another: the second runs on the state the first gives. -/
def andThen (o : Host.Outcome State Fault Refusal) (next : State → Host.Outcome State Fault Refusal) :
    Host.Outcome State Fault Refusal :=
  match o with
  | .next s => next s
  | .fault r => .fault r
  | .refused r => .refused r

end Sys2Proof.Machine
end

