-- ==== Sys2Proof/Machine/Carrier.lean ====
section
/-!
DEFINITION. Family G: the CarrierGenerator's steps. A meaning is what the step does at one carrier clock.

Rules: spec/40_carrier_generator.md R110 to R116. The engine reads the Signal in CG_WAIT and nowhere else, and
writes only `cg_step`, `cg_cnt` and `pin` (R121).
-/

namespace Sys2Proof.Machine

/-- CG_LOW (R111): the pin is driven low at every one of the step's clocks. -/
def execCgLow (s : State) : Host.Outcome State Fault Refusal :=
  .next (drivePin (if stepCounting s then countClock s else enterStep s .wait 0#3) .low)

/-- CG_WAIT (R112): a wait on the level of the Signal, which it does not change. -/
def execCgWait (s : State) : Host.Outcome State Fault Refusal :=
  .next (if signalCleared s then drivePin (enterStep s .high cgHighClks) .high else s)

/-- CG_HIGH (R113): the pin falls at the transfer out of the step. -/
def execCgHigh (s : State) : Host.Outcome State Fault Refusal :=
  .next (if stepCounting s then countClock s else drivePin (enterStep s .low cgLowClks) .low)

end Sys2Proof.Machine
end

