-- ==== Sys2Proof/Machine/Controller.lean ====
section
/-!
DEFINITION. Family H: the host's operations.

Rules: spec/42_controller_operations.md R160 to R170, spec/30_encoding.md R82, R95. A meaning is the effect of the
operation in the base cycle in which it is presented; when a cycle presents and accepts it is Machine/Ports.lean's
and Machine/Cycle.lean's.
-/

namespace Sys2Proof.Machine

/-- ACTIVATE (R162, R163): the engines start, or, on a platform that could not achieve the clock rates, the
operation takes ConfigError (R200). It writes no engine register, nor `sig`, `pin` or the slot. -/
def execActivate (s : State) : Host.Outcome State Fault Refusal :=
  .next (if s.params.cfgOk then startEngines s else raiseConfigError s)

/-- DEACTIVATE (R164): an abrupt cancellation. The slot is released only where a frame was in progress; `sig`,
`pin`, `q_word` and `cfg_err` are not written. -/
def execDeactivate (s : State) : Host.Outcome State Fault Refusal :=
  .next (stopEngines (if s.psPhase = .idle then s else queueRelease s))

/-- SEND (R166): the Code Word enters the empty slot. On a full slot the command is held: "a command presented
with `cmd_ready = 0` has no effect in that cycle" (R82, R167). -/
def execSend (address command : Field) (s : State) : Host.Outcome State Fault Refusal :=
  .next (if queueNotEmpty s then s else queueWrite s (codeWord address command))

/-- The reserved code (R95, R170): accepted, and changes nothing. -/
def execReserved (s : State) : Host.Outcome State Fault Refusal :=
  .next s

end Sys2Proof.Machine
end

