-- ==== Sys2Proof/Machine/Sequencer.lean ====
section
/-!
DEFINITION. Family P: the ProtocolSequencer's phases. A meaning is what the phase does at one tick.

Rules: spec/41_protocol_sequencer.md R129 to R154. Every transfer writes the Signal of the phase it enters in the
same step as the phase code and the count (R133), but for the return to IDLE, which writes no Signal (R146).
-/

namespace Sys2Proof.Machine

/-- IDLE (R130): with a word in the slot, take it and begin the leader; the slot stays occupied. Otherwise wait. -/
def execIdle (s : State) : Host.Outcome State Fault Refusal :=
  .next (if queueNotEmpty s then
      enterPhase (signalWrite (loadShiftRegister s (queueRead s)) .cleared) .leaderPulse tLeaderPulse
    else s)

/-- LEADER_PULSE (R132). -/
def execLeaderPulse (s : State) : Host.Outcome State Fault Refusal :=
  .next (timedPhase s (enterPhase (signalWrite s .set) .leaderSpace tLeaderSpace))

/-- LEADER_SPACE (R134): the bit loop is entered without a test (R135). -/
def execLeaderSpace (s : State) : Host.Outcome State Fault Refusal :=
  .next (timedPhase s (enterPhase (signalWrite s .cleared) .bitPulse tBitPulse))

/-- BIT_PULSE (R136): its last tick drains one bit, which chooses the length of the space that follows. -/
def execBitPulse (s : State) : Host.Outcome State Fault Refusal :=
  .next (timedPhase s (enterPhase (signalWrite (shiftOut s) .set) .bitSpace (spaceTicks (nextBit s))))

/-- BIT_SPACE (R140), with the loop test of R142 at its last tick. -/
def execBitSpace (s : State) : Host.Outcome State Fault Refusal :=
  .next (timedPhase s (if outputRegisterEmpty s then
      enterPhase (signalWrite s .cleared) .stopBit tStop
    else
      enterPhase (signalWrite s .cleared) .bitPulse tBitPulse))

/-- STOP_BIT (R144). -/
def execStopBit (s : State) : Host.Outcome State Fault Refusal :=
  .next (timedPhase s
    (enterPhase (setGapLoops (signalWrite s .set) gapOuterIterations gapInnerIterations) .gap gapBody))

/-- GAP (R145), with the return to IDLE and the release of the slot at its last tick (R146). -/
def execGap (s : State) : Host.Outcome State Fault Refusal :=
  .next (timedPhase s
    (if innerLoopCounting s then reloadGapBody (setGapLoops s s.gapOuter (s.gapInner - 1#5))
    else if outerLoopCounting s then reloadGapBody (setGapLoops s (s.gapOuter - 1#2) gapInnerIterations)
    else queueRelease (enterPhase (setGapLoops s 0#2 0#5) .idle 0#9)))

end Sys2Proof.Machine
end

