-- ==== Sys2Proof/Syntax.lean ====
section
/-!
DEFINITION. The block's instructions, whole: one constructor of `Instr` for each row of spec/opcode_table.json.

Rules: spec/00_scope.md R18, R19 ("Instruction": a host operation, a ProtocolSequencer phase, or a
CarrierGenerator step), spec/30_encoding.md R81, R92, R93, R94, R95, R99, R100.
-/

namespace Sys2Proof

/-- The fourteen instructions of R94 and R95.

Format H, the host's operations: `activate`, `deactivate`, `send`, and the reserved code. ACTIVATE, DEACTIVATE
and the reserved code have no operands: their operand fields are ignored (R81).
Format P, the ProtocolSequencer's phases, one evaluation per tick.
Format G, the CarrierGenerator's steps, one evaluation per carrier clock. -/
inductive Instr where
  /-- ACTIVATE, `cmd_op = 0` (R162). -/
  | activate
  /-- DEACTIVATE, `cmd_op = 1` (R164). -/
  | deactivate
  /-- SEND, `cmd_op = 2`, address first and command second as in the source's call (R99, R166). -/
  | send (address command : Field)
  /-- The reserved host code, `cmd_op = 3` (R95, R170). -/
  | reserved
  /-- IDLE, `ps_phase = 0` (R130). -/
  | idle
  /-- LEADER_PULSE, `ps_phase = 1` (R132). -/
  | leaderPulse
  /-- LEADER_SPACE, `ps_phase = 2` (R134). -/
  | leaderSpace
  /-- BIT_PULSE, `ps_phase = 3` (R136). -/
  | bitPulse
  /-- BIT_SPACE, `ps_phase = 4` (R140, R142). -/
  | bitSpace
  /-- STOP_BIT, `ps_phase = 5` (R144). -/
  | stopBit
  /-- GAP, `ps_phase = 6` (R145, R146). -/
  | gap
  /-- CG_LOW, `cg_step = 0` (R111). -/
  | cgLow
  /-- CG_WAIT, `cg_step = 1` (R112). -/
  | cgWait
  /-- CG_HIGH, `cg_step = 2` (R113). -/
  | cgHigh
deriving DecidableEq, Repr

/-- The three encodings that select an instruction (R80, R92, R93). -/
inductive Format where
  /-- Format H, the 34-bit host command word. -/
  | h
  /-- Format P, the 3-bit phase code. -/
  | p
  /-- Format G, the 2-bit step code. -/
  | g
deriving DecidableEq, Repr

/-- A raw word offered to the decoder: its format and its bits as one number, bit 0 the least significant. -/
structure EncodedWord where
  format : Format
  bits   : Nat
deriving DecidableEq, Repr

/-- The source's call syntax (R99), its operands still the caller's integers. -/
inductive Call where
  | activate
  | deactivate
  | send (address command : Int)
deriving DecidableEq, Repr

/-- One line `@t OP operands` of a host script: the command is first presented in base cycle `time` and held
until it is accepted (R100). -/
structure Line where
  time  : Nat
  instr : Instr
deriving DecidableEq, Repr

end Sys2Proof
end

