-- ==== Sys2Proof/Machine/Dispatch.lean ====
section
/-!
DEFINITION. The meaning of every instruction, one arm per constructor.
-/

namespace Sys2Proof.Machine

def exec (i : Instr) (s : State) : Host.Outcome State Fault Refusal :=
  match i with
  -- format H: spec/42_controller_operations.md R162, R164, R166, R170
  | .activate => Sys2Proof.Machine.execActivate s
  | .deactivate => Sys2Proof.Machine.execDeactivate s
  | .send address command => Sys2Proof.Machine.execSend address command s
  | .reserved => Sys2Proof.Machine.execReserved s
  -- format P: spec/41_protocol_sequencer.md R130 to R146
  | .idle => Sys2Proof.Machine.execIdle s
  | .leaderPulse => Sys2Proof.Machine.execLeaderPulse s
  | .leaderSpace => Sys2Proof.Machine.execLeaderSpace s
  | .bitPulse => Sys2Proof.Machine.execBitPulse s
  | .bitSpace => Sys2Proof.Machine.execBitSpace s
  | .stopBit => Sys2Proof.Machine.execStopBit s
  | .gap => Sys2Proof.Machine.execGap s
  -- format G: spec/40_carrier_generator.md R111 to R113
  | .cgLow => Sys2Proof.Machine.execCgLow s
  | .cgWait => Sys2Proof.Machine.execCgWait s
  | .cgHigh => Sys2Proof.Machine.execCgHigh s

end Sys2Proof.Machine
end

