-- ==== Sys2Proof/WellFormed.lean ====
section
/-!
DEFINITION. What makes a term of the syntax well-formed.

Rules: spec/30_encoding.md R83 (operand range), R95 (the reserved code), R96 (unlisted codes), R98 (one fixed
length for each encoding), R100 (script lines), spec/70_reset_and_hazards.md R235,
spec/93_implementation_defined.md U5, U6, U7.
-/

namespace Sys2Proof

/-- The fixed length of a format's words (R98). -/
def Format.width : Format → Nat
  | .h => 34
  | .p => 3
  | .g => 2

/-- The format whose word selects the instruction (R94). -/
def Instr.format : Instr → Format
  | .activate => .h
  | .deactivate => .h
  | .send _ _ => .h
  | .reserved => .h
  | .idle => .p
  | .leaderPulse => .p
  | .leaderSpace => .p
  | .bitPulse => .p
  | .bitSpace => .p
  | .stopBit => .p
  | .gap => .p
  | .cgLow => .g
  | .cgWait => .g
  | .cgHigh => .g

/-- An instruction is well-formed unless it is the reserved host code, which a host must not use (R95, R235).
The operands of SEND are 16-bit by type, so no other term of `Instr` can be ill-formed (R83, R97). The machine
gives the reserved code its (null) effect all the same: see notes/assumptions/3.md. -/
def Instr.wf : Instr → Bool
  | .activate => true
  | .deactivate => true
  | .send _ _ => true
  | .reserved => false
  | .idle => true
  | .leaderPulse => true
  | .leaderSpace => true
  | .bitPulse => true
  | .bitSpace => true
  | .stopBit => true
  | .gap => true
  | .cgLow => true
  | .cgWait => true
  | .cgHigh => true

/-- A raw word is well-formed when its bits fit its format's width (R98) and, for the two engines' formats, the
code is a listed one (R96). -/
def EncodedWord.wf (e : EncodedWord) : Bool :=
  match e.format with
  | .h => decide (e.bits < 2 ^ 34)
  | .p => decide (e.bits ≤ 6)
  | .g => decide (e.bits ≤ 2)

/-- An operand of `send` is well-formed when the 16-bit port can carry it (R83, U7). -/
def operandInRange (v : Int) : Bool := decide (0 ≤ v) && decide (v ≤ 65535)

/-- A call is well-formed when both operands are in range (R83, U7). -/
def Call.wf : Call → Bool
  | .activate => true
  | .deactivate => true
  | .send a c => operandInRange a && operandInRange c

/-- The host operation a well-formed call stands for; an ill-formed call is refused (U7). -/
def Call.toInstr? (c : Call) : Option Instr :=
  if c.wf then
    match c with
    | .activate => some .activate
    | .deactivate => some .deactivate
    | .send a b => some (.send (BitVec.ofInt 16 a) (BitVec.ofInt 16 b))
  else none

/-- A line is well-formed when it gives a host operation that a host may use (R95, R100). -/
def Line.wf (l : Line) : Bool := decide (l.instr.format = .h) && l.instr.wf

/-- The lines' times never fall; two lines may name one base cycle. DESIGN CHOICE: neither R100 nor D28 says whether
a script's lines must stand in order of time. See notes/assumptions/16.md. -/
def timesRise : List Line → Bool
  | [] => true
  | [_] => true
  | l :: m :: rest => decide (l.time ≤ m.time) && timesRise (m :: rest)

/-- A script is well-formed when every line is (R100, R235, U5) and, by the model's choice, the lines stand in order
of time (DESIGN CHOICE, notes/assumptions/16.md). -/
def scriptWf (ls : List Line) : Bool := ls.all Line.wf && timesRise ls

end Sys2Proof
end

