-- ==== Sys2Proof/Decode.lean ====
section
/-!
DEFINITION. The decoder and the encoder of the three formats that select an instruction.

Rules: spec/30_encoding.md R80, R81 (format H), R92 (format P), R93 (format G), R95, R96, R98, and the match,
mask and encoding columns of spec/opcode_table.json.
-/

namespace Sys2Proof

/-- Why a raw word is no instruction. -/
inductive DecodeError where
  /-- The number has a bit above the format's width: no word of that format (R98). -/
  | tooWide (format : Format)
  /-- A phase code that no rule produces: 7 (R96). -/
  | unlistedPhase (code : PhaseCode)
  /-- A step code that no rule produces: 3 (R96). -/
  | unlistedStep (code : StepCode)
deriving DecidableEq, Repr

/-- Bits 33..32 of a command word, `cmd_op` (R80). -/
def wordOp (w : CommandWord) : OpCode := w.extractLsb' 32 2

/-- Bits 31..16 of a command word, `cmd_command` (R80). -/
def wordCommand (w : CommandWord) : Field := w.extractLsb' 16 16

/-- Bits 15..0 of a command word, `cmd_address` (R80). -/
def wordAddress (w : CommandWord) : Field := w.extractLsb' 0 16

/-- The word `{cmd_op, cmd_command, cmd_address}` (R80). -/
def commandWord (op : OpCode) (command address : Field) : CommandWord := op ++ command ++ address

/-- Format H: `cmd_op` alone selects (R81, R94), so every 34-bit word is one of the four. -/
def decodeCommand (w : CommandWord) : Instr :=
  match (wordOp w).toNat with
  | 0 => .activate
  | 1 => .deactivate
  | 2 => .send (wordAddress w) (wordCommand w)
  | _ => .reserved

/-- Format P (R92): code 7 is rejected by name (R96). -/
def decodePhase (c : PhaseCode) : Except DecodeError Instr :=
  match c.toNat with
  | 0 => .ok .idle
  | 1 => .ok .leaderPulse
  | 2 => .ok .leaderSpace
  | 3 => .ok .bitPulse
  | 4 => .ok .bitSpace
  | 5 => .ok .stopBit
  | 6 => .ok .gap
  | _ => .error (.unlistedPhase c)

/-- Format G (R93): code 3 is rejected by name (R96). -/
def decodeStep (c : StepCode) : Except DecodeError Instr :=
  match c.toNat with
  | 0 => .ok .cgLow
  | 1 => .ok .cgWait
  | 2 => .ok .cgHigh
  | _ => .error (.unlistedStep c)

/-- The decoder: total on every raw word of every format. -/
def decode (e : EncodedWord) : Except DecodeError Instr :=
  if e.bits < 2 ^ e.format.width then
    match e.format with
    | .h => .ok (decodeCommand (BitVec.ofNat 34 e.bits))
    | .p => decodePhase (BitVec.ofNat 3 e.bits)
    | .g => decodeStep (BitVec.ofNat 2 e.bits)
  else .error (.tooWide e.format)

/-- The format of a row that the opcode table gives so many bits: 34, 3 or 2, or, counted in whole bytes, 40 for
format H and 8 for an engine's code. The 3-bit and the 2-bit codes are both 8 bits in whole bytes and both start
at 0, so a byte alone does not say which engine's code it is: it is read as a phase code, format P.
See notes/assumptions/8.md. -/
def tableFormat (nbits : Nat) : Option Format :=
  match nbits with
  | 34 => some .h
  | 40 => some .h
  | 3 => some .p
  | 8 => some .p
  | 2 => some .g
  | _ => none

/-- The instruction the decoder reads from a row's bits, numbered as spec/opcode_table.json numbers them. -/
def decodeTableWord (nbits w : Nat) : Option Instr :=
  match tableFormat nbits with
  | none => none
  | some f =>
    match decode ⟨f, w⟩ with
    | .ok i => some i
    | .error _ => none

/-- The encoder: the word of an instruction, written from the table's encoding column; an ignored operand field
is written as zeros (R81). -/
def encode : Instr → EncodedWord
  | .activate => ⟨.h, (commandWord 0#2 0#16 0#16).toNat⟩
  | .deactivate => ⟨.h, (commandWord 1#2 0#16 0#16).toNat⟩
  | .send address command => ⟨.h, (commandWord 2#2 command address).toNat⟩
  | .reserved => ⟨.h, (commandWord 3#2 0#16 0#16).toNat⟩
  | .idle => ⟨.p, 0⟩
  | .leaderPulse => ⟨.p, 1⟩
  | .leaderSpace => ⟨.p, 2⟩
  | .bitPulse => ⟨.p, 3⟩
  | .bitSpace => ⟨.p, 4⟩
  | .stopBit => ⟨.p, 5⟩
  | .gap => ⟨.p, 6⟩
  | .cgLow => ⟨.g, 0⟩
  | .cgWait => ⟨.g, 1⟩
  | .cgHigh => ⟨.g, 2⟩

end Sys2Proof
end

