-- ==== Sys2Proof/Machine/Ports.lean ====
section
/-!
DEFINITION. The ports of the block: the command port with its handshake, and the outputs.

Rules: spec/10_state.md R38; spec/30_encoding.md R80 to R82; spec/43_system_step.md R183, R186;
spec/60_exceptions.md R204.
-/

namespace Sys2Proof.Machine

/-- `inputs(t)`: this base cycle's inputs; after the last the host gave, `quietInputs`, whose `cmd_op` of 0 is the
model's choice (notes/assumptions/17.md). -/
def portInputs (s : State) : Inputs := s.inputs.headD quietInputs

/-- The 34-bit command word on the port (R80). -/
def portWord (io : Inputs) : CommandWord := commandWord io.op io.command io.address

/-- The inputs of a base cycle that presents a command word. -/
def presentWord (w : CommandWord) : Inputs :=
  { rst := false, valid := true, op := wordOp w, address := wordAddress w, command := wordCommand w }

/-- `cmd_ready(t)` for an operation code (R82): 1 for every code but SEND's, and for SEND when the slot is empty.
It does not depend on `active` or on `cfg_err`. -/
def cmdReady (s : State) (op : OpCode) : Bool := if op = 2#2 then !s.qFull else true

/-- A command is accepted in this base cycle (R82). -/
def accepted (s : State) : Bool := (portInputs s).valid && cmdReady s (portInputs s).op

/-- A DEACTIVATE is accepted in this base cycle: `deact_now` of R183. -/
def deactNow (s : State) : Bool := accepted s && decide ((portInputs s).op = 1#2)

/-- `engines_go` of R183: the engines may step in this base cycle. -/
def enginesGo (s : State) : Bool := running s && !deactNow s

/-- The observable outputs of a base cycle (R186). -/
structure Outputs where
  cmdReady : Bool
  irOut    : Level
  cfgErr   : Bool
deriving DecidableEq, Repr

/-- `cmd_ready(t)`, `ir_out(t) = pin(t)` and `cfg_err(t)` (R186). In a cycle for which the host gave no inputs,
`cmd_ready` is that of operation code 0 (DESIGN CHOICE, notes/assumptions/17.md). -/
def outputs (s : State) : Outputs :=
  { cmdReady := cmdReady s (portInputs s).op, irOut := s.pin, cfgErr := failed s }

end Sys2Proof.Machine
end

