-- ==== Sys2Proof/Machine/Cycle.lean ====
section
/-!
DEFINITION. One base cycle of the whole block: which instructions it runs, and how they combine.

Rules: spec/43_system_step.md R183, R184; spec/60_exceptions.md R204; spec/20_memory.md R69, R73;
spec/30_encoding.md R92, R93.

All reads of R183 are of the state at the start of the cycle and all writes land together. The model gets this by
deciding from that state which instructions run, and running them in the order CarrierGenerator,
ProtocolSequencer, host: each of the three then finds what it reads as the cycle began with it, because the earlier
ones write nothing that it reads (R20, R25, R121), and a SEND is accepted on `q_full(t)`. In the one state in which
two parts would write one element differently (the Gap's last tick with an empty slot, and a SEND), which no run
reaches (R73, R42(a)), the host's write stands: see notes/assumptions/5.md.
-/

namespace Sys2Proof.Machine

/-- The 3-bit code of a phase (R34, R92). -/
def phaseCode : Phase → PhaseCode
  | .idle => 0#3
  | .leaderPulse => 1#3
  | .leaderSpace => 2#3
  | .bitPulse => 3#3
  | .bitSpace => 4#3
  | .stopBit => 5#3
  | .gap => 6#3

/-- The 2-bit code of a step (R35, R93). -/
def stepCode : CgStep → StepCode
  | .low => 0#2
  | .wait => 1#2
  | .high => 2#2

/-- The instruction a decoder's answer stands for, if it is one. -/
def decoded (r : Except DecodeError Instr) : Option Instr :=
  match r with
  | .ok i => some i
  | .error _ => none

/-- The host operation this base cycle runs: the accepted command's, decoded from the port (R82). -/
def hostInstr (s : State) : Option Instr :=
  if accepted s then decoded (decode ⟨.h, (portWord (portInputs s)).toNat⟩) else none

/-- The phase this base cycle runs: the one in force, at a tick, while the engines may step (R92, R183). -/
def sequencerInstr (s : State) : Option Instr :=
  if enginesGo s && tickEn s then decoded (decode ⟨.p, (phaseCode s.psPhase).toNat⟩) else none

/-- The step this base cycle runs: the one in force, at a carrier clock, while the engines may step (R93, R183). -/
def carrierInstr (s : State) : Option Instr :=
  if enginesGo s && carEn s then decoded (decode ⟨.g, (stepCode s.cgStep).toNat⟩) else none

/-- Run an instruction if there is one. -/
def runInstr (o : Option Instr) (s : State) : Host.Outcome State Fault Refusal :=
  match o with
  | none => .next s
  | some i => exec i s

/-- `Step` of R183 without reset: the three parts, then the dividers. -/
def runParts (s : State) : Host.Outcome State Fault Refusal :=
  andThen (runInstr (carrierInstr s) s) fun c =>
    andThen (runInstr (sequencerInstr s) c) fun q =>
      andThen (runInstr (hostInstr s) q) fun d => .next (endCycle d)

/-- `Step` of R183: reset beats everything (R204(a), R220). -/
def runCycle (s : State) : Host.Outcome State Fault Refusal :=
  if (portInputs s).rst then .next (consumeInputs (takeReset s)) else runParts s

/-! ### Placing an instruction where the next cycle runs it -/

/-- Present a command word on the port in this base cycle. -/
def placeCommand (s : State) (w : CommandWord) : State :=
  { s with inputs := presentWord w :: s.inputs.tail }

/-- Put the ProtocolSequencer at a phase, active, in a base cycle that is a tick and no carrier clock, with no
command presented. -/
def placePhase (s : State) (p : Phase) : State :=
  { s with
    active := true
    psPhase := p
    carDiv := BitVec.ofNat 3 (s.carDiv.toNat % basePerCar)
    tickDiv := BitVec.ofNat 6 (s.tickDiv.toNat % basePerTick)
    params := { s.params with
      carPhase := Fin.ofNat 5 (s.carDiv.toNat + 1), tickPhase := Fin.ofNat 38 s.tickDiv.toNat }
    inputs := quietInputs :: s.inputs.tail }

/-- Put the CarrierGenerator at a step, active, in a base cycle that is a carrier clock and no tick, with no
command presented. -/
def placeStep (s : State) (g : CgStep) : State :=
  { s with
    active := true
    cgStep := g
    carDiv := BitVec.ofNat 3 (s.carDiv.toNat % basePerCar)
    tickDiv := BitVec.ofNat 6 (s.tickDiv.toNat % basePerTick)
    params := { s.params with
      carPhase := Fin.ofNat 5 s.carDiv.toNat, tickPhase := Fin.ofNat 38 (s.tickDiv.toNat + 1) }
    inputs := quietInputs :: s.inputs.tail }

/-- Put a decoded instruction where its engine or the port has it, a host operation as the raw word `w`. -/
def placeInstr (s : State) (i : Instr) (w : Nat) : State :=
  match i with
  | .activate => placeCommand s (BitVec.ofNat 34 w)
  | .deactivate => placeCommand s (BitVec.ofNat 34 w)
  | .send _ _ => placeCommand s (BitVec.ofNat 34 w)
  | .reserved => placeCommand s (BitVec.ofNat 34 w)
  | .idle => placePhase s .idle
  | .leaderPulse => placePhase s .leaderPulse
  | .leaderSpace => placePhase s .leaderSpace
  | .bitPulse => placePhase s .bitPulse
  | .bitSpace => placePhase s .bitSpace
  | .stopBit => placePhase s .stopBit
  | .gap => placePhase s .gap
  | .cgLow => placeStep s .low
  | .cgWait => placeStep s .wait
  | .cgHigh => placeStep s .high

/-- Put the instruction that a table row's bits stand for where the next cycle runs it; bits that are no
instruction can stand nowhere in this machine (R96) and leave the state as it is. -/
def placeTableWord (s : State) (nbits w : Nat) : State :=
  match decodeTableWord nbits w with
  | some i => placeInstr s i w
  | none => s

end Sys2Proof.Machine
end

