-- ==== Sys2Proof/Machine/Step.lean ====
section
/-!
DEFINITION. The machine's step, one base cycle (spec/43_system_step.md R183), and the placing of an instruction
where the step runs it.
-/

namespace Sys2Proof.Machine

/-- One base cycle of the whole block (R183). -/
def step (s : State) : Host.Outcome State Fault Refusal := runCycle s

/-- `s` with the instruction whose bits are `w` placed where the next step runs it. The block fetches nothing from
a memory (spec/20_memory.md R77): a host operation is presented on the command port, and the "program counters"
`ps_phase` and `cg_step` hold the engines' instructions themselves. See notes/assumptions/9.md. -/
def State.withFetchWord (s : State) (nbits w : Nat) : State := placeTableWord s nbits w

end Sys2Proof.Machine
end

