-- ==== Sys2Proof/Machine/Frame.lean ====
section
/-!
DEFINITION. Format S: the frame on the Signal, its timeline and its reading back.

Rules: spec/30_encoding.md R89 (the symbols), R90 (reading a frame back); spec/41_protocol_sequencer.md R137,
R147 (the timeline), R148 (the length). Nothing here is used by the step: it is the spec's own picture of what the
steps put on the Signal, written from the table of R89 alone, for the statements to compare the machine with.
-/

namespace Sys2Proof.Machine

/-- One symbol of a frame: the phase that sends it, the Signal's value, and its length in ticks (R89). -/
structure FrameSymbol where
  phase : Phase
  sig   : Signal
  ticks : Nat
deriving DecidableEq, Repr

/-- A bit on the wire: a pulse of 28 ticks, then a space of 28 after a 0 and of 84 after a 1 (R89). -/
def bitSymbols (b : Bool) : List FrameSymbol :=
  [⟨.bitPulse, .cleared, 28⟩, ⟨.bitSpace, .set, if b then 84 else 28⟩]

/-- The pairs of the bits `i`, `i+1`, … of a word, `n` of them, in the order they are sent (R65, R89). -/
def bitPairs (w : CodeWord) : Nat → Nat → List FrameSymbol
  | _, 0 => []
  | i, n + 1 => bitSymbols (w.getLsbD i) ++ bitPairs w (i + 1) n

/-- The frame for a Code Word (R89): leader, thirty-two bits least significant first, stop pulse, gap. -/
def frameSymbols (w : CodeWord) : List FrameSymbol :=
  ⟨.leaderPulse, .cleared, 450⟩ :: ⟨.leaderSpace, .set, 225⟩ ::
    (bitPairs w 0 32 ++ [⟨.stopBit, .cleared, 28⟩, ⟨.gap, .set, 7000⟩])

/-- The length of a sequence of symbols, in ticks. -/
def ticksOf : List FrameSymbol → Nat
  | [] => 0
  | x :: xs => x.ticks + ticksOf xs

/-- The symbol in force at a tick offset, if the sequence lasts so long. -/
def symbolAt : List FrameSymbol → Nat → Option FrameSymbol
  | [], _ => none
  | x :: xs, k => if k < x.ticks then some x else symbolAt xs (k - x.ticks)

/-- The number of 1 bits among bits `n-1..0` of a word: `p(n)` of R147, `popcount` of R148 at `n` = 32. -/
def onesBelow (w : CodeWord) : Nat → Nat
  | 0 => 0
  | n + 1 => onesBelow w n + (if w.getLsbD n then 1 else 0)

/-- `popcount(w)` (R148). -/
def popcount (w : CodeWord) : Nat := onesBelow w 32

/-- The tick at which the pulse of pass `i` begins (R147). -/
def pulseTick (w : CodeWord) (i : Nat) : Nat := 675 + 56 * i + 56 * onesBelow w i

/-- The length of a frame in ticks, from leaving IDLE to re-entering it (R148). -/
def frameTicks (w : CodeWord) : Nat := 9495 + 56 * popcount w

/-- The Signal alone, as a receiver sees a sequence of symbols: level and length of each. -/
def signalRuns (xs : List FrameSymbol) : List (Signal × Nat) := xs.map fun x => (x.sig, x.ticks)

/-- The bit a space stands for (R90). -/
def readSpace (ticks : Nat) : Option Bool :=
  if ticks = 28 then some false else if ticks = 84 then some true else none

/-- Read `n` pulse and space pairs back as a number, the first pair its least significant bit (R90). -/
def readPairs : Nat → List (Signal × Nat) → Option Nat
  | 0, _ => some 0
  | n + 1, (.cleared, 28) :: (.set, t) :: rest =>
    match readSpace t, readPairs n rest with
    | some b, some v => some ((if b then 1 else 0) + 2 * v)
    | _, _ => none
  | _ + 1, _ => none

/-- Read a frame back from the Signal (R90): after the leader, the word's 32 spaces. -/
def readFrame : List (Signal × Nat) → Option CodeWord
  | (.cleared, 450) :: (.set, 225) :: rest => (readPairs 32 rest).map (BitVec.ofNat 32)
  | _ => none

end Sys2Proof.Machine
end

