-- ==== Sys2Proof/Machine/Run.lean ====
section
/-!
DEFINITION. Runs of the block: base cycle after base cycle, under a script, and tick by tick.

Rules: spec/00_scope.md R12 (time); spec/30_encoding.md R82, R100 (a host that holds a command until it is
accepted); spec/43_system_step.md R185, R187, R188; spec/93_implementation_defined.md U8, U9.
-/

namespace Sys2Proof.Machine

/-- The state one base cycle later. The step always gives one (R185); were it to stop, the state would stay. -/
def advance (s : State) : State :=
  match step s with
  | .next t => t
  | .fault _ => s
  | .refused _ => s

/-- The state `n` base cycles later. -/
def after : Nat → State → State
  | 0, s => s
  | n + 1, s => after n (advance s)

/-- How often the pin rises in the next `n` base cycles: the number of high intervals that begin (R120). -/
def risingEdges : Nat → State → Nat
  | 0, _ => 0
  | n + 1, s => (if s.pin = .low ∧ (advance s).pin = .high then 1 else 0) + risingEdges n (advance s)

/-! ### The sequencer alone, one step to a tick -/

/-- The slot as the sequencer alone sees it filled: the Code Word of the SEND accepted since the last tick, if there
was one (R188). A full slot takes no second word (R62). -/
def fillSlot (f : Option CodeWord) (s : State) : State :=
  match f with
  | none => s
  | some w => if queueNotEmpty s then s else queueWrite s w

/-- One tick of the sequencer taken alone (R188): its input `f` is whether the slot was filled since the last tick,
and with what; the phase in force runs once. -/
def tickAlone (f : Option CodeWord) (s : State) : State :=
  match runInstr (decoded (decode ⟨.p, (phaseCode s.psPhase).toNat⟩)) (fillSlot f s) with
  | .next t => t
  | .fault _ => s
  | .refused _ => s

/-- The ticks of the sequencer taken alone, one for each input (R188). -/
def ticksAlone : List (Option CodeWord) → State → State
  | [], s => s
  | f :: fs, s => ticksAlone fs (tickAlone f s)

/-- The Code Word that this base cycle's SEND puts into the slot, where one is accepted (R82, R166, R220). -/
def sentWord (s : State) : Option CodeWord :=
  if (portInputs s).rst then none
  else match hostInstr s with
    | some (.send address command) => some (codeWord address command)
    | _ => none

/-- Whether the slot is filled in the next `m` base cycles, and with what word first. -/
def slotFilled : Nat → State → Option CodeWord
  | 0, _ => none
  | m + 1, s =>
    match sentWord s with
    | some w => some w
    | none => slotFilled m (advance s)

/-- The inputs of the sequencer alone for the next `n` ticks, the first of them `j` base cycles away: for each tick,
whether the slot was filled since the tick before it (R188). A SEND accepted in the base cycle of a tick is not seen
by that tick (R184), so it stands in the next one's input. -/
def tickInputs : Nat → Nat → State → List (Option CodeWord)
  | _, 0, _ => []
  | j, n + 1, s => slotFilled j s :: tickInputs basePerTick n (after j s)

/-! ### A host that follows a script -/

/-- A run under a script: the time, the lines not yet accepted, and the block. -/
structure ScriptRun where
  time    : Nat
  pending : List Line
  block   : State
deriving DecidableEq, Repr

/-- The inputs a script's host gives in this base cycle: its first pending line once its time has come, held
until it is accepted (R82, R100). A line that is no host operation is never presented. -/
def scriptInputs (r : ScriptRun) : Inputs :=
  match r.pending with
  | [] => quietInputs
  | l :: _ =>
    if l.time ≤ r.time ∧ l.instr.format = .h then presentWord (BitVec.ofNat 34 (encode l.instr).bits)
    else quietInputs

/-- One base cycle under a script: an accepted line is done. -/
def scriptCycle (r : ScriptRun) : ScriptRun :=
  let s := { r.block with inputs := [scriptInputs r] }
  { time := r.time + 1, pending := if accepted s then r.pending.tail else r.pending, block := advance s }

/-- `n` base cycles under a script. -/
def playScript : Nat → ScriptRun → ScriptRun
  | 0, r => r
  | n + 1, r => playScript n (scriptCycle r)

end Sys2Proof.Machine
end

