-- ==== Sys2Proof/Safety.lean ====
section
/-!
DEFINITION. What counts as a good state and a good run, in the terms the statements use.

Rules: spec/10_state.md R42 (the invariants); spec/43_system_step.md R187 (the end of a run);
spec/60_exceptions.md R200 (a state with `cfg_err` is never the end of a good run).
-/

namespace Sys2Proof.Machine

/-! ### The host's inputs -/

/-- A command with this operation code is presented in a base cycle without reset. -/
abbrev Inputs.presents (io : Inputs) (op : OpCode) : Prop := io.valid = true ∧ io.op = op

/-- No reset in the next `n` base cycles. -/
abbrev noReset (n : Nat) (s : State) : Prop := ∀ io ∈ s.inputs.take n, io.rst = false

/-- No command with this operation code in the next `n` base cycles. -/
abbrev noCommand (op : OpCode) (n : Nat) (s : State) : Prop := ∀ io ∈ s.inputs.take n, ¬ io.presents op

/-- No reset and no DEACTIVATE in the next `n` base cycles. -/
abbrev undisturbed (n : Nat) (s : State) : Prop := noReset n s ∧ noCommand 1#2 n s

/-- No reset and no command at all in the next `n` base cycles. -/
abbrev quietFor (n : Nat) (s : State) : Prop := ∀ io ∈ s.inputs.take n, io.rst = false ∧ io.valid = false

/-- `j` base cycles remain before the next tick: the tick is in the cycle `j` later. -/
abbrev nextTickIn (j : Nat) (s : State) : Prop :=
  j < basePerTick ∧ (s.tickDiv.toNat + j) % basePerTick = s.params.tickPhase.val

/-- `j` base cycles remain before the next carrier clock. -/
abbrev nextClockIn (j : Nat) (s : State) : Prop :=
  j < basePerCar ∧ (s.carDiv.toNat + j) % basePerCar = s.params.carPhase.val

/-! ### How the parts of a cycle run -/

/-- An instruction that a condition lets run takes `s` to `t`; where it does not run, `t` is `s`. -/
abbrev runsIf (b : Bool) (i : Instr) (s t : State) : Prop := if b then exec i s = .next t else t = s

/-- The state with every element of the CarrierGenerator, and the carrier clock's divider and phase, blotted out. -/
def outsideCarrier (s : State) : State :=
  { s with
    cgStep := .low, cgCnt := 0#3, pin := .low, carDiv := 0#3, params := { s.params with carPhase := 0 } }

/-- The state with everything that is not the sequencer's business blotted out (R188). -/
def sequencerView (s : State) : State :=
  { s with cgStep := .low, cgCnt := 0#3, pin := .low, carDiv := 0#3, tickDiv := 0#6, inputs := [] }

/-- The ticks left before a timed phase ends, the one in progress counted: `ps_cnt` (R30), and in the Gap what
its two loops have still to run as well (R31, R145). -/
def phaseTicksLeft (s : State) : Nat :=
  if s.psPhase = .gap then
    s.psCnt.toNat + 140 * (s.gapInner.toNat - 1) + 3500 * (s.gapOuter.toNat - 1)
  else s.psCnt.toNat

/-- The sequencer has just entered LEADER_PULSE: this is the first base cycle of the frame for `q_word`. -/
abbrev frameBegins (s : State) : Prop :=
  s.active = true ∧ s.psPhase = .leaderPulse ∧ s.psCnt = tLeaderPulse ∧ nextTickIn 37 s

/-! ### The invariant

R42's clauses (a) to (h), clause (g) being so by type, and what else holds in every reachable state and is needed
for them to be kept: the ranges of the counters (R28, R30 to R32, R41), the engines' registers while inactive
(R151, R116), and the serializer's place in the word (R137). -/

/-- R42(a). -/
abbrev slotHeld (s : State) : Prop := s.psPhase ≠ .idle → s.qFull = true

/-- R42(b); and the shift register is empty too. -/
abbrev idleZero (s : State) : Prop :=
  s.psPhase = .idle →
    s.psCnt = 0#9 ∧ s.gapOuter = 0#2 ∧ s.gapInner = 0#5 ∧ s.bitsLeft = 0#6 ∧ s.osr = 0#32

/-- R42(c). -/
abbrev signalOfPhase (s : State) : Prop :=
  (s.psPhase = .leaderPulse ∨ s.psPhase = .bitPulse ∨ s.psPhase = .stopBit → s.sig = .cleared) ∧
  (s.psPhase = .leaderSpace ∨ s.psPhase = .bitSpace ∨ s.psPhase = .gap → s.sig = .set)

/-- R42(d), and the loop counters' ranges in the Gap (R31). -/
abbrev gapLoops (s : State) : Prop :=
  (s.psPhase ≠ .gap → s.gapOuter = 0#2 ∧ s.gapInner = 0#5) ∧
  (s.psPhase = .gap → 1#2 ≤ s.gapOuter ∧ s.gapOuter ≤ 2#2 ∧ 1#5 ≤ s.gapInner ∧ s.gapInner ≤ 25#5)

/-- R42(e). -/
abbrev bitsOfPhase (s : State) : Prop :=
  (s.psPhase = .leaderPulse ∨ s.psPhase = .leaderSpace → s.bitsLeft = 32#6) ∧
  (s.psPhase = .bitPulse → 1#6 ≤ s.bitsLeft ∧ s.bitsLeft ≤ 32#6) ∧
  (s.psPhase = .bitSpace → s.bitsLeft ≤ 31#6) ∧
  (s.psPhase = .stopBit ∨ s.psPhase = .gap → s.bitsLeft = 0#6)

/-- R42(f) and its converse but for the DEACTIVATE it names. -/
abbrev pinOfStep (s : State) : Prop :=
  (s.cgStep = .high → s.pin = .high) ∧
  (s.pin = .high → s.cgStep = .high ∨ (s.cgStep = .low ∧ s.cgCnt = cgLowClks))

/-- R42(h), with the platform's part in it: an error is only latched, and the engines only run, where the platform
is so (R162, R200). -/
abbrev failedNeverRuns (s : State) : Prop :=
  (s.cfgErr = true → s.active = false) ∧
  (s.cfgErr = true → s.params.cfgOk = false) ∧
  (s.active = true → s.params.cfgOk = true)

/-- The engines' registers while the block is inactive (R151, R116). -/
abbrev inactiveInitial (s : State) : Prop :=
  s.active = false → s.psPhase = .idle ∧ s.curBit = false ∧ s.cgStep = .low ∧ s.cgCnt = cgLowClks

/-- `ps_cnt` in a timed phase: at least one tick left, and no more than the phase lasts (R30, R131). -/
abbrev phaseCount (s : State) : Prop :=
  (s.psPhase ≠ .idle → 1#9 ≤ s.psCnt) ∧
  (s.psPhase = .leaderPulse → s.psCnt ≤ tLeaderPulse) ∧
  (s.psPhase = .leaderSpace → s.psCnt ≤ tLeaderSpace) ∧
  (s.psPhase = .bitPulse → s.psCnt ≤ tBitPulse) ∧
  (s.psPhase = .bitSpace → s.psCnt ≤ (if s.curBit then tSpace1 else tSpace0)) ∧
  (s.psPhase = .stopBit → s.psCnt ≤ tStop) ∧
  (s.psPhase = .gap → s.psCnt ≤ gapBody)

/-- `cg_cnt` in each step (R32). -/
abbrev stepCount (s : State) : Prop :=
  (s.cgStep = .low → 1#3 ≤ s.cgCnt ∧ s.cgCnt ≤ cgLowClks) ∧
  (s.cgStep = .wait → s.cgCnt = 0#3) ∧
  (s.cgStep = .high → 1#3 ≤ s.cgCnt ∧ s.cgCnt ≤ cgHighClks)

/-- The dividers' ranges (R41). -/
abbrev dividersInRange (s : State) : Prop := s.carDiv.toNat < basePerCar ∧ s.tickDiv.toNat < basePerTick

/-- The serializer's place in the word (R137): `osr = w >> i` with `bits_left = 32 - i`, and in a space the bit
just drained is the last one below that place. -/
abbrev serializerPlace (s : State) : Prop :=
  (s.psPhase ≠ .idle → s.osr = s.qWord >>> (32 - s.bitsLeft.toNat)) ∧
  (s.psPhase = .bitSpace → s.curBit = s.qWord.getLsbD (31 - s.bitsLeft.toNat))

/-- The invariant of the machine. -/
structure Inv (s : State) : Prop where
  slot       : slotHeld s
  idle       : idleZero s
  signal     : signalOfPhase s
  gap        : gapLoops s
  bits       : bitsOfPhase s
  pin        : pinOfStep s
  failed     : failedNeverRuns s
  inactive   : inactiveInitial s
  phase      : phaseCount s
  step       : stepCount s
  dividers   : dividersInRange s
  serializer : serializerPlace s

/-! ### The end of a run -/

/-- A clean end (R187), the script's own part aside: the sequencer is in IDLE with the slot empty, and the block is
inactive or parked with the Signal `SET`. -/
abbrev cleanEnd (s : State) : Prop :=
  s.psPhase = .idle ∧ s.qFull = false ∧ (s.active = false ∨ (s.cgStep = .wait ∧ s.sig = .set))

/-- A good end: clean, and with no configuration error (R200, U4). -/
abbrev goodEnd (s : State) : Prop := cleanEnd s ∧ s.cfgErr = false

/-- A run is over (R187): every command has been accepted, at a clean end. -/
abbrev ScriptRun.over (r : ScriptRun) : Prop := r.pending = [] ∧ cleanEnd r.block

end Sys2Proof.Machine
end

