-- ==== Sys2Proof/Certificates/Slice0/Obligations.lean ====
section
/-!
DEFINITION. The statements for the provers, each a formal reading of rules of spec/.

`after n s` is the state `n` base cycles after `s`; `RunIsAfter` says that the machine's own run is it, so that no
statement about `after` hides a stop. A statement about every state is a statement about every platform and every
host, since the state carries both (`params`, `inputs`).
-/

open Sys2Proof Sys2Proof.Machine

/-! ### Encodings -/

/-- Decoding what the encoder writes gives the instruction back, for every instruction and every operand, the
reserved code among them (spec/30_encoding.md R80, R81, R92, R93). -/
def Obligations.DecodeEncodeRoundTrip : Prop :=
  ∀ i : Instr, (encode i).format = i.format ∧ decode (encode i) = .ok i

/-- Whatever the decoder reads, the encoder writes back, but for the operand fields that ACTIVATE, DEACTIVATE and
the reserved code ignore: there the operation code agrees (R81). -/
def Obligations.EncodeInvertsDecode : Prop :=
  ∀ (e : EncodedWord) (i : Instr), decode e = .ok i →
    (encode i).format = e.format ∧
    (encode i).bits / 2 ^ 32 = e.bits / 2 ^ 32 ∧
    (i ≠ .activate → i ≠ .deactivate → i ≠ .reserved → encode i = e)

/-- The decoder answers exactly on the well-formed words, and rejects the others by name: a number wider than the
format, phase code 7, step code 3 (R96, R98). -/
def Obligations.DecodeRejectsByName : Prop :=
  ∀ (f : Format) (b : Nat),
    ((∃ i, decode ⟨f, b⟩ = .ok i) ↔ EncodedWord.wf ⟨f, b⟩ = true) ∧
    (decode ⟨f, b⟩ = .error (.tooWide f) ↔ 2 ^ f.width ≤ b) ∧
    (decode ⟨.p, b⟩ = .error (.unlistedPhase 7#3) ↔ b = 7) ∧
    (decode ⟨.g, b⟩ = .error (.unlistedStep 3#2) ↔ b = 3)

/-- Format H by match and mask over the 34-bit word: the two bits of `cmd_op` select, whatever the operand fields
hold, and SEND's operands are bits 15..0 and 31..16 (R80, R81). -/
def Obligations.OpcodeSelectsCommand : Prop :=
  ∀ w : CommandWord,
    (w &&& 0x300000000#34 = 0x000000000#34 ↔ decodeCommand w = .activate) ∧
    (w &&& 0x300000000#34 = 0x100000000#34 ↔ decodeCommand w = .deactivate) ∧
    (w &&& 0x300000000#34 = 0x200000000#34 ↔
      decodeCommand w = .send (w.extractLsb' 0 16) (w.extractLsb' 16 16)) ∧
    (w &&& 0x300000000#34 = 0x300000000#34 ↔ decodeCommand w = .reserved)

/-- Words written out in the spec decode to what they stand for (spec/95_test_vectors.md section 2.3 and the
opcode table). A check on fixed words. -/
def Obligations.SpecWordsDecode : Prop :=
  decode ⟨.h, 0x012345678⟩ = .ok .activate ∧
  decode ⟨.h, 0x100000000⟩ = .ok .deactivate ∧
  decode ⟨.h, 0x200080004⟩ = .ok (.send 0x0004#16 0x0008#16) ∧
  decode ⟨.h, 0x2654C0041⟩ = .ok (.send 0x0041#16 0x654C#16) ∧
  decode ⟨.h, 0x356781234⟩ = .ok .reserved ∧
  decode ⟨.p, 0b011⟩ = .ok .bitPulse ∧
  decode ⟨.p, 0b110⟩ = .ok .gap ∧
  decode ⟨.g, 0b01⟩ = .ok .cgWait

/-! ### The field rule and SEND -/

/-- The field rule, with its boundary values, for each half of the Code Word independently (R85). -/
def Obligations.FieldRule : Prop :=
  (∀ v : Field,
    (v ≤ 0x00FF#16 → field16 v = ((~~~ v &&& 0x00FF#16) <<< 8) ||| v) ∧
    (0x00FF#16 < v → field16 v = v)) ∧
  (∀ a c : Field, addressField (codeWord a c) = field16 a ∧ commandField (codeWord a c) = field16 c) ∧
  field16 0x0000#16 = 0xFF00#16 ∧ field16 0x00FF#16 = 0x00FF#16 ∧
  field16 0x0100#16 = 0x0100#16 ∧ field16 0xFFFF#16 = 0xFFFF#16

/-- The fields the rule can produce: all but the 255 values 0x0000 to 0x00FE; the rule leaves its own results
alone (R87, and spec/95_test_vectors.md section 2.1). -/
def Obligations.FieldsThatCanBeProduced : Prop :=
  (∀ f : Field, (∃ v, field16 v = f) ↔ 0x00FF#16 ≤ f) ∧
  (∀ v : Field, field16 (field16 v) = field16 v)

/-- SEND on an empty slot answers a next state in which the slot holds the encoded word and nothing else has
changed: in [0, 255] a field is the value under its complement, in [256, 65535] the value verbatim (R88, R166). -/
def Obligations.SendFillsTheSlot : Prop :=
  ∀ (a c : Field) (s : State), s.qFull = false →
    ∃ w : CodeWord,
      exec (.send a c) s = .next { s with qWord := w, qFull := true } ∧
      (c ≤ 0x00FF#16 → commandField w = ((~~~ c &&& 0x00FF#16) <<< 8) ||| c) ∧
      (0x00FF#16 < c → commandField w = c) ∧
      (a ≤ 0x00FF#16 → addressField w = ((~~~ a &&& 0x00FF#16) <<< 8) ||| a) ∧
      (0x00FF#16 < a → addressField w = a)

/-- SEND on a full slot is held: it is not ready (R82, R167). It is no completion. That `exec` of SEND answers the
same state there is the model's own reading of R82's held command, notes/assumptions/11.md (DEDUCED): the block does
not run the operation in that cycle. -/
def Obligations.SendOnFullSlotIsHeld : Prop :=
  ∀ (a c : Field) (s : State), s.qFull = true → cmdReady s 2#2 = false ∧ exec (.send a c) s = .next s

/-- A command presented and not accepted has no effect in that cycle: the base cycle is the one with no command
presented (R82). -/
def Obligations.UnacceptedCommandHasNoEffect : Prop :=
  ∀ (s : State) (io : Inputs) (rest : List Inputs), s.inputs = io :: rest → accepted s = false →
    step s = step { s with inputs := { io with valid := false } :: rest }

/-! ### Lifecycle -/

/-- ACTIVATE on a platform that achieved the clock rates starts both engines and changes nothing else (R162). -/
def Obligations.ActivateStartsTheEngines : Prop :=
  ∀ s : State, s.params.cfgOk = true → exec .activate s = .next { s with active := true }

/-- ACTIVATE on a platform that could not achieve the clock rates takes ConfigError: the sticky bit, and nothing
else (R162, R200). -/
def Obligations.ActivateTakesConfigError : Prop :=
  ∀ s : State, s.params.cfgOk = false → exec .activate s = .next { s with cfgErr := true }

/-- ACTIVATE while active changes nothing (R163), in every state that the invariant allows. -/
def Obligations.ActivateWhileActiveChangesNothing : Prop :=
  ∀ s : State, Inv s → s.active = true → exec .activate s = .next s

/-- DEACTIVATE, the whole of its writes: the engines' registers go to their initial values, the slot is released
only where a frame was in progress, and `sig`, `pin`, `q_word`, `cfg_err` are not written (R164). -/
def Obligations.DeactivateCancels : Prop :=
  ∀ s : State, exec .deactivate s = .next { s with
    active := false, psPhase := .idle, psCnt := 0#9, osr := 0#32, bitsLeft := 0#6, curBit := false,
    gapOuter := 0#2, gapInner := 0#5, cgStep := .low, cgCnt := 4#3,
    qFull := if s.psPhase = .idle then s.qFull else false }

/-- An accepted DEACTIVATE beats both engines: the base cycle is DEACTIVATE's own writes and the dividers, tick or
carrier clock or not (R164, R204(b)). -/
def Obligations.DeactivateBeatsTheEngines : Prop :=
  ∀ (s : State) (io : Inputs) (rest : List Inputs), s.inputs = io :: rest → io.rst = false → io.presents 1#2 →
    step s = .next { s with
      active := false, psPhase := .idle, psCnt := 0#9, osr := 0#32, bitsLeft := 0#6, curBit := false,
      gapOuter := 0#2, gapInner := 0#5, cgStep := .low, cgCnt := 4#3,
      qFull := if s.psPhase = .idle then s.qFull else false,
      carDiv := nextCarDiv s.carDiv, tickDiv := nextTickDiv s.tickDiv, inputs := rest }

/-- DEACTIVATE while inactive changes nothing (R164(d)), in every state that the invariant allows. -/
def Obligations.DeactivateWhileInactiveChangesNothing : Prop :=
  ∀ s : State, Inv s → s.active = false → exec .deactivate s = .next s

/-- The reserved code is accepted and has no effect (R170). -/
def Obligations.ReservedCodeHasNoEffect : Prop :=
  ∀ s : State, cmdReady s 3#2 = true ∧ exec .reserved s = .next s

/-! ### The sequencer's phases, one tick each -/

/-- IDLE with a word in the slot takes it and begins the leader; the slot stays occupied (R130). -/
def Obligations.IdleTakesTheWord : Prop :=
  ∀ s : State, s.qFull = true → exec .idle s = .next { s with
    osr := s.qWord, bitsLeft := 32#6, sig := .cleared, psPhase := .leaderPulse, psCnt := 450#9 }

/-- IDLE with an empty slot waits and changes nothing, the Signal least of all (R130). -/
def Obligations.IdleWaitsForAWord : Prop :=
  ∀ s : State, s.qFull = false → exec .idle s = .next s

/-- Each of the six timed phases counts a tick off and does nothing else while `ps_cnt` is above 1 (R131). -/
def Obligations.TimedPhasesCount : Prop :=
  ∀ (i : Instr) (s : State),
    i ∈ [Instr.leaderPulse, Instr.leaderSpace, Instr.bitPulse, Instr.bitSpace, Instr.stopBit, Instr.gap] →
    1#9 < s.psCnt → exec i s = .next { s with psCnt := s.psCnt - 1#9 }

/-- The leader's two phases end: the space of 225 ticks, then the first bit pulse of 28 (R132, R134). -/
def Obligations.LeaderPhasesEnd : Prop :=
  ∀ s : State, ¬ 1#9 < s.psCnt →
    exec .leaderPulse s = .next { s with sig := .set, psPhase := .leaderSpace, psCnt := 225#9 } ∧
    exec .leaderSpace s = .next { s with sig := .cleared, psPhase := .bitPulse, psCnt := 28#9 }

/-- BIT_PULSE ends by draining one bit, the lowest, and the space lasts 84 ticks after a 1 and 28 after a 0
(R136). -/
def Obligations.BitPulseDrainsOneBit : Prop :=
  ∀ s : State, ¬ 1#9 < s.psCnt →
    exec .bitPulse s = .next { s with
      osr := s.osr >>> 1, bitsLeft := s.bitsLeft - 1#6, curBit := s.osr.getLsbD 0,
      sig := .set, psPhase := .bitSpace, psCnt := if s.osr.getLsbD 0 then 84#9 else 28#9 }

/-- BIT_SPACE ends by the test of the count of bits, never of the value of `osr` (R142). -/
def Obligations.BitSpaceTestsTheCount : Prop :=
  ∀ s : State, ¬ 1#9 < s.psCnt →
    exec .bitSpace s = .next { s with
      sig := .cleared, psPhase := if s.bitsLeft = 0#6 then .stopBit else .bitPulse, psCnt := 28#9 }

/-- STOP_BIT ends by entering the Gap with both loop counters loaded (R144). -/
def Obligations.StopBitEntersTheGap : Prop :=
  ∀ s : State, ¬ 1#9 < s.psCnt →
    exec .stopBit s = .next { s with
      sig := .set, psPhase := .gap, gapOuter := 2#2, gapInner := 25#5, psCnt := 140#9 }

/-- GAP's two loops (R145), and its end: the return to IDLE and the release of the slot, with the Signal not
written (R146). -/
def Obligations.GapLoopsThenReleases : Prop :=
  ∀ s : State, ¬ 1#9 < s.psCnt →
    (1#5 < s.gapInner → exec .gap s = .next { s with gapInner := s.gapInner - 1#5, psCnt := 140#9 }) ∧
    (¬ 1#5 < s.gapInner → 1#2 < s.gapOuter →
      exec .gap s = .next { s with gapOuter := s.gapOuter - 1#2, gapInner := 25#5, psCnt := 140#9 }) ∧
    (¬ 1#5 < s.gapInner → ¬ 1#2 < s.gapOuter →
      exec .gap s = .next { s with
        psPhase := .idle, psCnt := 0#9, gapOuter := 0#2, gapInner := 0#5, qFull := false })

/-! ### The carrier's steps, one carrier clock each -/

/-- CG_LOW drives the pin low at every clock, and ends in the wait (R111). -/
def Obligations.CgLowDrivesLow : Prop :=
  ∀ s : State,
    (1#3 < s.cgCnt → exec .cgLow s = .next { s with pin := .low, cgCnt := s.cgCnt - 1#3 }) ∧
    (¬ 1#3 < s.cgCnt → exec .cgLow s = .next { s with pin := .low, cgStep := .wait, cgCnt := 0#3 })

/-- CG_WAIT goes on when the Signal is cleared and parks while it is set, and changes the Signal in neither case
(R112). -/
def Obligations.CgWaitTestsTheSignal : Prop :=
  ∀ s : State,
    (s.sig = .cleared → exec .cgWait s = .next { s with cgStep := .high, cgCnt := 5#3, pin := .high }) ∧
    (s.sig = .set → exec .cgWait s = .next s)

/-- CG_HIGH counts its clocks and lets the pin fall at its last, whatever the Signal is (R113). -/
def Obligations.CgHighEndsLow : Prop :=
  ∀ s : State,
    (1#3 < s.cgCnt → exec .cgHigh s = .next { s with cgCnt := s.cgCnt - 1#3 }) ∧
    (¬ 1#3 < s.cgCnt → exec .cgHigh s = .next { s with cgStep := .low, cgCnt := 4#3, pin := .low })

/-! ### One base cycle -/

/-- A step runs the decoded instructions: what the decoder reads from the step code, the phase code and the
command port is what the base cycle runs, each where its condition holds, and then the dividers (R183). That the
three run one on another's result, in the order carrier, sequencer, host, is the model's choice,
notes/assumptions/5.md (DESIGN CHOICE); R183 reads the cycle's first state everywhere, and
`PartsReadTheCyclesStart` says that the two agree. -/
def Obligations.StepRunsDecodedInstructions : Prop :=
  ∀ (s : State) (g p h : Instr), (portInputs s).rst = false →
    decode ⟨.g, (stepCode s.cgStep).toNat⟩ = .ok g →
    decode ⟨.p, (phaseCode s.psPhase).toNat⟩ = .ok p →
    decode ⟨.h, (portWord (portInputs s)).toNat⟩ = .ok h →
    ∃ c q d, runsIf (enginesGo s && carEn s) g s c ∧ runsIf (enginesGo s && tickEn s) p c q ∧
      runsIf (accepted s) h q d ∧ step s = .next (endCycle d)

/-- Every part of a base cycle reads the state the cycle began with: each element of the next state is the one its
owner's instruction gives when run on that state alone (R183, R69, R73). The slot's occupancy has two writers; that
the host's write, where it makes one, is the one that stands is the model's choice, notes/assumptions/5.md (DESIGN
CHOICE): it decides only states that no run reaches. -/
def Obligations.PartsReadTheCyclesStart : Prop :=
  ∀ (s : State) (g p h : Instr), (portInputs s).rst = false →
    decode ⟨.g, (stepCode s.cgStep).toNat⟩ = .ok g →
    decode ⟨.p, (phaseCode s.psPhase).toNat⟩ = .ok p →
    decode ⟨.h, (portWord (portInputs s)).toNat⟩ = .ok h →
    ∃ c q d t, runsIf (enginesGo s && carEn s) g s c ∧ runsIf (enginesGo s && tickEn s) p s q ∧
      runsIf (accepted s) h s d ∧ step s = .next t ∧
      t.active = d.active ∧ t.cfgErr = d.cfgErr ∧ t.qWord = d.qWord ∧
      t.qFull = (if d.qFull = s.qFull then q.qFull else d.qFull) ∧
      t.sig = q.sig ∧ t.pin = c.pin ∧
      t.cgStep = (if deactNow s then d else c).cgStep ∧ t.cgCnt = (if deactNow s then d else c).cgCnt ∧
      t.psPhase = (if deactNow s then d else q).psPhase ∧ t.psCnt = (if deactNow s then d else q).psCnt ∧
      t.osr = (if deactNow s then d else q).osr ∧ t.bitsLeft = (if deactNow s then d else q).bitsLeft ∧
      t.curBit = (if deactNow s then d else q).curBit ∧
      t.gapOuter = (if deactNow s then d else q).gapOuter ∧
      t.gapInner = (if deactNow s then d else q).gapInner ∧
      t.carDiv = nextCarDiv s.carDiv ∧ t.tickDiv = nextTickDiv s.tickDiv ∧
      t.params = s.params ∧ t.inputs = s.inputs.tail

/-- Reset beats everything: whatever the state and the other inputs, the next state is the reset table (R43,
R220). -/
def Obligations.ResetBeatsEverything : Prop :=
  ∀ s : State, (portInputs s).rst = true → step s = .next {
    active := false, cfgErr := false, qFull := false, sig := .set, qWord := 0#32, osr := 0#32, bitsLeft := 0#6,
    curBit := false, psCnt := 0#9, gapOuter := 0#2, gapInner := 0#5, cgCnt := 4#3, psPhase := .idle,
    cgStep := .low, pin := .low, carDiv := 0#3, tickDiv := 0#6, params := s.params, inputs := s.inputs.tail }

/-- The step is total: every state has a next state (R185). -/
def Obligations.StepIsTotal : Prop :=
  ∀ s : State, ∃ t, step s = .next t

/-- The machine's own run of `n` base cycles answers, and answers the state `n` cycles later (R185). -/
def Obligations.RunIsAfter : Prop :=
  ∀ (n : Nat) (s : State), Sys2Proof.core.run n s = .next (after n s)

/-- The dividers advance in every base cycle without reset, whatever the engines and the host do (R41). -/
def Obligations.DividersFreeRun : Prop :=
  ∀ (n : Nat) (s : State), dividersInRange s → noReset n s →
    (after n s).carDiv.toNat = (s.carDiv.toNat + n) % 5 ∧ (after n s).tickDiv.toNat = (s.tickDiv.toNat + n) % 38

/-- An instruction placed in the machine is the one its next step runs. The placing is the model's own
(notes/assumptions/9.md): it rests on no rule. -/
def Obligations.PlacedInstructionRuns : Prop :=
  ∀ (i : Instr) (s : State), (i.format = .h → s.active = false) →
    ∃ t, exec i (s.withFetchWord i.format.width (encode i).bits) = .next t ∧
      step (s.withFetchWord i.format.width (encode i).bits) = .next (endCycle t)

/-! ### Invariants and whole-machine rules -/

/-- The invariant holds after reset, on every platform (R42, R43). -/
def Obligations.ResetHasTheInvariant : Prop :=
  Inv State.reset ∧ ∀ p : Params, Inv (State.resetWith p)

/-- Every base cycle keeps the invariant: the clauses of R42, the ranges of the counters, and the serializer's
place in the word. -/
def Obligations.StepKeepsTheInvariant : Prop :=
  ∀ s t : State, Inv s → step s = .next t → Inv t

/-- The Signal has one writer: but for reset, it changes only at a tick of an active sequencer that no DEACTIVATE
stops, to `CLEARED` out of IDLE, LEADER_SPACE and BIT_SPACE and to `SET` out of LEADER_PULSE, BIT_PULSE and
STOP_BIT (R25, R133, R236). -/
def Obligations.SignalHasOneWriter : Prop :=
  ∀ s t : State, step s = .next t → t.sig ≠ s.sig → (portInputs s).rst = false →
    s.active = true ∧ tickEn s = true ∧ deactNow s = false ∧
    ((t.sig = .cleared ∧ (s.psPhase = .idle ∨ s.psPhase = .leaderSpace ∨ s.psPhase = .bitSpace)) ∨
     (t.sig = .set ∧ (s.psPhase = .leaderPulse ∨ s.psPhase = .bitPulse ∨ s.psPhase = .stopBit)))

/-- The pin moves only at a carrier clock of an active CarrierGenerator that no DEACTIVATE stops, but for reset:
it rises only out of the wait with the Signal cleared (R37, R112, R116). -/
def Obligations.PinMovesOnlyAtCarrierClocks : Prop :=
  ∀ s t : State, step s = .next t → t.pin ≠ s.pin → (portInputs s).rst = false →
    s.active = true ∧ carEn s = true ∧ deactNow s = false ∧
    (t.pin = .high → s.cgStep = .wait ∧ s.sig = .cleared)

/-- The sequencer's transfers are the table of R149 and no others: with `p` the phase before and `p'` the phase
after a base cycle without reset. -/
def Obligations.PhaseTransfersAreTheTable : Prop :=
  ∀ s t : State, Inv s → step s = .next t → (portInputs s).rst = false →
    if deactNow s then t.psPhase = .idle
    else if s.active = true ∧ tickEn s = true then
      match s.psPhase with
      | .idle => t.psPhase = if s.qFull then .leaderPulse else .idle
      | .leaderPulse => t.psPhase = if s.psCnt = 1#9 then .leaderSpace else .leaderPulse
      | .leaderSpace => t.psPhase = if s.psCnt = 1#9 then .bitPulse else .leaderSpace
      | .bitPulse => t.psPhase = if s.psCnt = 1#9 then .bitSpace else .bitPulse
      | .bitSpace =>
        t.psPhase = if s.psCnt = 1#9 then (if s.bitsLeft = 0#6 then .stopBit else .bitPulse) else .bitSpace
      | .stopBit => t.psPhase = if s.psCnt = 1#9 then .gap else .stopBit
      | .gap =>
        t.psPhase = if s.psCnt = 1#9 ∧ s.gapInner = 1#5 ∧ s.gapOuter = 1#2 then .idle else .gap
    else t.psPhase = s.psPhase

/-- ConfigError is fatal: without a reset the bit stays and the engines never run (R22, R200). -/
def Obligations.ConfigErrorIsFatal : Prop :=
  ∀ (n : Nat) (s : State), Inv s → s.cfgErr = true → noReset n s →
    (after n s).cfgErr = true ∧ (after n s).active = false

/-- Nothing the CarrierGenerator does reaches back: two states that differ in its elements, its clock's divider and
its clock's phase alone still differ in those alone after any number of base cycles (R121). -/
def Obligations.CarrierNeverReachesBack : Prop :=
  ∀ (n : Nat) (s t : State), outsideCarrier s = outsideCarrier t → outsideCarrier (after n s) = outsideCarrier (after n t)

/-- The CarrierGenerator sees of the sequencer and of the slot the Signal alone: two states that agree in the
Signal, the lifecycle, the inputs and the carrier's own elements and clock give the same carrier elements (R110). -/
def Obligations.CarrierReadsOnlyTheSignal : Prop :=
  ∀ s t : State, s.sig = t.sig → s.active = t.active → s.inputs = t.inputs → s.cgStep = t.cgStep →
    s.cgCnt = t.cgCnt → s.pin = t.pin → s.carDiv = t.carDiv → s.params.carPhase = t.params.carPhase →
    (advance s).cgStep = (advance t).cgStep ∧ (advance s).cgCnt = (advance t).cgCnt ∧
    (advance s).pin = (advance t).pin ∧ (advance s).carDiv = (advance t).carDiv

/-- What survives the inactive state: until an ACTIVATE or a reset, the Signal, the pin and `cfg_err` stay as they
are, the sequencer stays in IDLE, and a word in the slot is kept (R210, and the hazards of R230 and R231). -/
def Obligations.InactiveBlockKeepsPinAndSignal : Prop :=
  ∀ (n : Nat) (s : State), Inv s → s.active = false → noReset n s → noCommand 0#2 n s →
    (after n s).active = false ∧ (after n s).sig = s.sig ∧ (after n s).pin = s.pin ∧
    (after n s).cfgErr = s.cfgErr ∧ (after n s).psPhase = .idle ∧
    (s.qFull = true → (after n s).qFull = true ∧ (after n s).qWord = s.qWord)

/-- A pin left high by a DEACTIVATE is driven low after the next ACTIVATE, two to six base cycles after the cycle
that accepts it, and not before (R230). -/
def Obligations.ReactivationDrivesThePinLow : Prop :=
  ∀ (s : State) (io : Inputs) (rest : List Inputs), Inv s → s.active = false → s.params.cfgOk = true →
    s.pin = .high → s.inputs = io :: rest → io.presents 0#2 → undisturbed 6 s →
    ∃ k, 2 ≤ k ∧ k ≤ 6 ∧ (∀ j, j < k → (after j s).pin = .high) ∧ (after k s).pin = .low

/-- A frame that a DEACTIVATE cuts is never resumed: with no SEND after it, whatever ACTIVATEs come, the sequencer
stays in IDLE with an empty slot and the Signal keeps the value it had (R165, R231). -/
def Obligations.CutFrameIsNeverResumed : Prop :=
  ∀ (n : Nat) (s : State) (io : Inputs) (rest : List Inputs), Inv s → s.psPhase ≠ .idle →
    s.inputs = io :: rest → io.presents 1#2 → noReset (n + 1) s → noCommand 2#2 (n + 1) s →
    (after (n + 1) s).psPhase = .idle ∧ (after (n + 1) s).qFull = false ∧ (after (n + 1) s).sig = s.sig

/-- A clean end is stable: until the host acts nothing changes but the dividers (R187). -/
def Obligations.CleanEndIsStable : Prop :=
  ∀ (n : Nat) (s : State), cleanEnd s → quietFor n s →
    after n s = { s with
      carDiv := (after n s).carDiv, tickDiv := (after n s).tickDiv, inputs := s.inputs.drop n }

/-! ### The frame on the Signal -/

/-- The length of a frame is the sum of its symbols, and its bounds (R148). -/
def Obligations.FrameLength : Prop :=
  ∀ w : CodeWord, ticksOf (frameSymbols w) = frameTicks w ∧ 9495 ≤ frameTicks w ∧ frameTicks w ≤ 11287

/-- The pulse of pass `i` begins at tick `675 + 56 i + 56 p(i)` and lasts 28, and its space lasts 28 or 84 by bit
`i` of the word (R147). -/
def Obligations.PulsesBeginOnTheTimeline : Prop :=
  ∀ (w : CodeWord) (i : Nat), i < 32 →
    (∀ j, j < 28 → symbolAt (frameSymbols w) (pulseTick w i + j) = some ⟨.bitPulse, .cleared, 28⟩) ∧
    (∀ j, j < (if w.getLsbD i then 84 else 28) →
      symbolAt (frameSymbols w) (pulseTick w i + 28 + j) =
        some ⟨.bitSpace, .set, if w.getLsbD i then 84 else 28⟩)

/-- The word is recovered from the Signal of its frame, least significant bit first (R90). -/
def Obligations.FrameReadsBack : Prop :=
  ∀ w : CodeWord, readFrame (signalRuns (frameSymbols w)) = some w

/-- With a word in the slot and the engines active, the sequencer stays in IDLE until the next tick, at most 38
base cycles away, and then begins the frame for that word (R71, R130). -/
def Obligations.IdleTakesTheWordAtTheNextTick : Prop :=
  ∀ (j : Nat) (s : State), Inv s → s.active = true → s.psPhase = .idle → s.qFull = true → nextTickIn j s →
    undisturbed (j + 1) s →
    (∀ k, k ≤ j → (after k s).psPhase = .idle ∧ (after k s).sig = s.sig) ∧
    frameBegins (after (j + 1) s) ∧ (after (j + 1) s).sig = .cleared ∧
    (after (j + 1) s).qFull = true ∧ (after (j + 1) s).qWord = s.qWord ∧ (after (j + 1) s).osr = s.qWord

/-- A timed phase holds its code and its Signal for exactly the ticks it has left, to the base cycle, whatever
commands but DEACTIVATE the host presents (R131). -/
def Obligations.TimedPhaseLastsItsTicks : Prop :=
  ∀ (j : Nat) (s : State), Inv s → s.active = true → s.psPhase ≠ .idle → nextTickIn j s →
    undisturbed (j + 38 * (phaseTicksLeft s - 1) + 1) s →
    (∀ k, k ≤ j + 38 * (phaseTicksLeft s - 1) →
      (after k s).psPhase = s.psPhase ∧ (after k s).sig = s.sig) ∧
    (after (j + 38 * (phaseTicksLeft s - 1) + 1) s).psPhase ≠ s.psPhase

/-- THE FRAME. From the base cycle in which a frame begins, the phase and the Signal are those of the timeline of
its word at every base cycle of the frame, `n / 38` ticks in, whatever commands but DEACTIVATE the host presents
(R147; claim T2 of spec/95_test_vectors.md). -/
def Obligations.FrameFollowsTheTimeline : Prop :=
  ∀ (n : Nat) (s : State), Inv s → frameBegins s → n < 38 * frameTicks s.qWord → undisturbed n s →
    ∃ x, symbolAt (frameSymbols s.qWord) (n / 38) = some x ∧
      (after n s).psPhase = x.phase ∧ (after n s).sig = x.sig

/-- BACK-PRESSURE. The slot is held for the whole frame and its Gap, so that SEND is not ready and the word stays,
and is released at the frame's last tick with the sequencer back in IDLE and the Signal `SET` (R148, R153, R167). -/
def Obligations.SlotIsHeldForTheWholeFrame : Prop :=
  ∀ s : State, Inv s → frameBegins s → undisturbed (38 * frameTicks s.qWord) s →
    (∀ n, n < 38 * frameTicks s.qWord → cmdReady (after n s) 2#2 = false ∧ (after n s).qWord = s.qWord) ∧
    cmdReady (after (38 * frameTicks s.qWord) s) 2#2 = true ∧
    (after (38 * frameTicks s.qWord) s).psPhase = .idle ∧ (after (38 * frameTicks s.qWord) s).sig = .set

/-- THE TICK-LEVEL VIEW (R188). The sequencer run on its own, one step to a tick, given at each tick whether the
slot was filled since the last one, is the whole block at every base cycle: before the first tick, which is `j` base
cycles away, and `m` base cycles into the `n`-th tick period after it, what was sent meanwhile waiting in the slot.
The host may present any command but DEACTIVATE, SEND among them. In this view the Signal, as a function of the tick
number, is the timeline of R147, whatever is offered to the full slot; at its last tick the slot is free, and a word
that fills it then begins its own frame at the next tick, and not before (R153). -/
def Obligations.TickLevelViewAgrees : Prop :=
  (∀ (j m : Nat) (s : State), Inv s → s.active = true → nextTickIn j s → m ≤ j → undisturbed m s →
    sequencerView (after m s) = sequencerView (fillSlot (slotFilled m s) s)) ∧
  (∀ (j n m : Nat) (s : State), Inv s → s.active = true → nextTickIn j s → 1 ≤ m → m ≤ 38 →
    undisturbed (j + 38 * n + m) s →
    sequencerView (after (j + 38 * n + m) s) =
      sequencerView
        (fillSlot (slotFilled m (after (j + 38 * n) s)) (ticksAlone (tickInputs j (n + 1) s) s))) ∧
  (∀ (fs : List (Option CodeWord)) (s : State), Inv s → frameBegins s → fs.length < frameTicks s.qWord →
    ∃ x, symbolAt (frameSymbols s.qWord) fs.length = some x ∧
      (ticksAlone fs s).psPhase = x.phase ∧ (ticksAlone fs s).sig = x.sig ∧ (ticksAlone fs s).qWord = s.qWord) ∧
  (∀ (fs : List (Option CodeWord)) (s : State), Inv s → frameBegins s → fs.length = frameTicks s.qWord →
    (ticksAlone fs s).psPhase = .idle ∧ (ticksAlone fs s).sig = .set ∧ (ticksAlone fs s).qFull = false ∧
    tickAlone none (ticksAlone fs s) = ticksAlone fs s ∧
    ∀ w : CodeWord,
      (tickAlone (some w) (ticksAlone fs s)).psPhase = .leaderPulse ∧
      (tickAlone (some w) (ticksAlone fs s)).psCnt = tLeaderPulse ∧
      (tickAlone (some w) (ticksAlone fs s)).sig = .cleared ∧
      (tickAlone (some w) (ticksAlone fs s)).qWord = w ∧ (tickAlone (some w) (ticksAlone fs s)).osr = w)

/-! ### The carrier on the pin -/

/-- Turn-off: from any state the invariant allows, 45 base cycles of a Signal that is `SET` park the engine with
the pin low (R118). -/
def Obligations.EngineParksWhileTheSignalIsSet : Prop :=
  ∀ s : State, Inv s → (∀ k, k ≤ 45 → (after k s).active = true) → (∀ k, k < 45 → (after k s).sig = .set) →
    (after 45 s).cgStep = .wait ∧ (after 45 s).pin = .low

/-- THE GATE, closed: 25 base cycles of a Signal that is `SET` leave the pin low (R119(a)). -/
def Obligations.PinIsLowWhileTheSignalIsSet : Prop :=
  ∀ s : State, Inv s → (∀ k, k ≤ 25 → (after k s).active = true) → (∀ k, k < 25 → (after k s).sig = .set) →
    (after 25 s).pin = .low

/-- THE GATE, open: from a waiting engine, while the Signal is `CLEARED`, the pin is a square wave of 50 base
cycles, high first, from the first carrier clock on (R119(b), R114). -/
def Obligations.PinIsASquareWaveWhileTheSignalIsCleared : Prop :=
  ∀ (d n : Nat) (s : State), Inv s → s.cgStep = .wait → nextClockIn d s →
    (∀ k, k ≤ n + 1 → (after k s).active = true) → (∀ k, k ≤ n → (after k s).sig = .cleared) →
    ∀ v, d + 1 ≤ v → v ≤ n + 1 → ((after v s).pin = .high ↔ (v - (d + 1)) % 50 < 25)

/-- A pulse of `m` base cycles that starts with the engine waiting begins exactly
`(m - 1 - d) / 50 + 1` high intervals (R120). -/
def Obligations.HighIntervalsOfAPulse : Prop :=
  ∀ (d m : Nat) (s : State), Inv s → s.cgStep = .wait → nextClockIn d s → d < m →
    (∀ k, k ≤ m → (after k s).active = true) → (∀ k, k < m → (after k s).sig = .cleared) →
    risingEdges m s = (m - 1 - d) / 50 + 1

/-- THE WHOLE FRAME on the pin: 1068 high intervals begin, whatever the word and whatever the phases of the two
clocks, when no high interval is in progress as the frame begins: the engine is parked, or, after an ACTIVATE that
found a word in the slot, still in its first low clocks (R117, R120; claim T7 and section 2.7 of
spec/95_test_vectors.md). -/
def Obligations.FrameHas1068HighIntervals : Prop :=
  ∀ s : State, Inv s → frameBegins s → s.cgStep ≠ .high → undisturbed (38 * frameTicks s.qWord) s →
    risingEdges (38 * frameTicks s.qWord) s = 1068
end

