-- ==== Sys2Proof/Laws/Decode.lean ====
section
/-!
SUPPORT. What the decoder answers on the words the machine itself holds: the port's command word and the two
engines' codes.
-/

namespace Sys2Proof.Machine

/-- The instruction of a phase (R92). -/
def phaseInstr : Phase → Instr
  | .idle => .idle
  | .leaderPulse => .leaderPulse
  | .leaderSpace => .leaderSpace
  | .bitPulse => .bitPulse
  | .bitSpace => .bitSpace
  | .stopBit => .stopBit
  | .gap => .gap

/-- The instruction of a step (R93). -/
def stepInstr : CgStep → Instr
  | .low => .cgLow
  | .wait => .cgWait
  | .high => .cgHigh

/-- The instruction of a command on the port (R81). -/
def portInstr (io : Inputs) : Instr :=
  match io.op.toNat with
  | 0 => .activate
  | 1 => .deactivate
  | 2 => .send io.address io.command
  | _ => .reserved

@[simp] theorem decode_phaseCode (p : Phase) : decode ⟨.p, (phaseCode p).toNat⟩ = .ok (phaseInstr p) := by
  cases p <;> rfl

@[simp] theorem decode_stepCode (g : CgStep) : decode ⟨.g, (stepCode g).toNat⟩ = .ok (stepInstr g) := by
  cases g <;> rfl

@[simp] theorem wordOp_commandWord (op : OpCode) (c a : Field) : wordOp (commandWord op c a) = op := by
  ext i hi
  simp only [wordOp, commandWord, BitVec.getElem_extractLsb', BitVec.getLsbD_append]
  simp only [show ¬ (32 + i < 16) by omega, show ¬ (32 + i - 16 < 16) by omega, if_false,
    show 32 + i - 16 - 16 = i by omega]
  simp [hi]

@[simp] theorem wordCommand_commandWord (op : OpCode) (c a : Field) : wordCommand (commandWord op c a) = c := by
  ext i hi
  simp only [wordCommand, commandWord, BitVec.getElem_extractLsb', BitVec.getLsbD_append]
  simp [hi]

@[simp] theorem wordAddress_commandWord (op : OpCode) (c a : Field) : wordAddress (commandWord op c a) = a := by
  ext i hi
  simp only [wordAddress, commandWord, BitVec.getElem_extractLsb', BitVec.getLsbD_append]
  simp [hi]

@[simp] theorem decode_portWord (io : Inputs) : decode ⟨.h, (portWord io).toNat⟩ = .ok (portInstr io) := by
  have hlt : (portWord io).toNat < 2 ^ 34 := (portWord io).isLt
  simp only [decode, Format.width, hlt, if_true, BitVec.ofNat_toNat, BitVec.setWidth_eq]
  simp only [decodeCommand, portWord, wordOp_commandWord, wordCommand_commandWord, wordAddress_commandWord]
  rfl

@[simp] theorem decoded_ok (i : Instr) : decoded (.ok i) = some i := rfl

/-- The instructions of a cycle, named. -/
theorem hostInstr_eq (s : State) :
    hostInstr s = if accepted s then some (portInstr (portInputs s)) else none := by
  simp [hostInstr]

theorem sequencerInstr_eq (s : State) :
    sequencerInstr s = if enginesGo s && tickEn s then some (phaseInstr s.psPhase) else none := by
  simp [sequencerInstr]

theorem carrierInstr_eq (s : State) :
    carrierInstr s = if enginesGo s && carEn s then some (stepInstr s.cgStep) else none := by
  simp [carrierInstr]

end Sys2Proof.Machine
end

