-- ==== Sys2Proof/Laws/State.lean ====
section
/-!
SUPPORT. One lemma per field per update of the state: what each operation of Machine/Ops.lean and
Machine/Timing.lean writes, and that it writes nothing else. No later proof unfolds a record update.
-/

namespace Sys2Proof.Machine

variable (s : State)

/-! `queueWrite` -/

@[simp] theorem queueWrite_active (w : CodeWord) : (queueWrite s w).active = s.active := rfl
@[simp] theorem queueWrite_cfgErr (w : CodeWord) : (queueWrite s w).cfgErr = s.cfgErr := rfl
@[simp] theorem queueWrite_qFull (w : CodeWord) : (queueWrite s w).qFull = true := rfl
@[simp] theorem queueWrite_sig (w : CodeWord) : (queueWrite s w).sig = s.sig := rfl
@[simp] theorem queueWrite_qWord (w : CodeWord) : (queueWrite s w).qWord = w := rfl
@[simp] theorem queueWrite_osr (w : CodeWord) : (queueWrite s w).osr = s.osr := rfl
@[simp] theorem queueWrite_bitsLeft (w : CodeWord) : (queueWrite s w).bitsLeft = s.bitsLeft := rfl
@[simp] theorem queueWrite_curBit (w : CodeWord) : (queueWrite s w).curBit = s.curBit := rfl
@[simp] theorem queueWrite_psCnt (w : CodeWord) : (queueWrite s w).psCnt = s.psCnt := rfl
@[simp] theorem queueWrite_gapOuter (w : CodeWord) : (queueWrite s w).gapOuter = s.gapOuter := rfl
@[simp] theorem queueWrite_gapInner (w : CodeWord) : (queueWrite s w).gapInner = s.gapInner := rfl
@[simp] theorem queueWrite_cgCnt (w : CodeWord) : (queueWrite s w).cgCnt = s.cgCnt := rfl
@[simp] theorem queueWrite_psPhase (w : CodeWord) : (queueWrite s w).psPhase = s.psPhase := rfl
@[simp] theorem queueWrite_cgStep (w : CodeWord) : (queueWrite s w).cgStep = s.cgStep := rfl
@[simp] theorem queueWrite_pin (w : CodeWord) : (queueWrite s w).pin = s.pin := rfl
@[simp] theorem queueWrite_carDiv (w : CodeWord) : (queueWrite s w).carDiv = s.carDiv := rfl
@[simp] theorem queueWrite_tickDiv (w : CodeWord) : (queueWrite s w).tickDiv = s.tickDiv := rfl
@[simp] theorem queueWrite_params (w : CodeWord) : (queueWrite s w).params = s.params := rfl
@[simp] theorem queueWrite_inputs (w : CodeWord) : (queueWrite s w).inputs = s.inputs := rfl

/-! `queueRelease` -/

@[simp] theorem queueRelease_active : (queueRelease s).active = s.active := rfl
@[simp] theorem queueRelease_cfgErr : (queueRelease s).cfgErr = s.cfgErr := rfl
@[simp] theorem queueRelease_qFull : (queueRelease s).qFull = false := rfl
@[simp] theorem queueRelease_sig : (queueRelease s).sig = s.sig := rfl
@[simp] theorem queueRelease_qWord : (queueRelease s).qWord = s.qWord := rfl
@[simp] theorem queueRelease_osr : (queueRelease s).osr = s.osr := rfl
@[simp] theorem queueRelease_bitsLeft : (queueRelease s).bitsLeft = s.bitsLeft := rfl
@[simp] theorem queueRelease_curBit : (queueRelease s).curBit = s.curBit := rfl
@[simp] theorem queueRelease_psCnt : (queueRelease s).psCnt = s.psCnt := rfl
@[simp] theorem queueRelease_gapOuter : (queueRelease s).gapOuter = s.gapOuter := rfl
@[simp] theorem queueRelease_gapInner : (queueRelease s).gapInner = s.gapInner := rfl
@[simp] theorem queueRelease_cgCnt : (queueRelease s).cgCnt = s.cgCnt := rfl
@[simp] theorem queueRelease_psPhase : (queueRelease s).psPhase = s.psPhase := rfl
@[simp] theorem queueRelease_cgStep : (queueRelease s).cgStep = s.cgStep := rfl
@[simp] theorem queueRelease_pin : (queueRelease s).pin = s.pin := rfl
@[simp] theorem queueRelease_carDiv : (queueRelease s).carDiv = s.carDiv := rfl
@[simp] theorem queueRelease_tickDiv : (queueRelease s).tickDiv = s.tickDiv := rfl
@[simp] theorem queueRelease_params : (queueRelease s).params = s.params := rfl
@[simp] theorem queueRelease_inputs : (queueRelease s).inputs = s.inputs := rfl

/-! `signalWrite` -/

@[simp] theorem signalWrite_active (v : Signal) : (signalWrite s v).active = s.active := rfl
@[simp] theorem signalWrite_cfgErr (v : Signal) : (signalWrite s v).cfgErr = s.cfgErr := rfl
@[simp] theorem signalWrite_qFull (v : Signal) : (signalWrite s v).qFull = s.qFull := rfl
@[simp] theorem signalWrite_sig (v : Signal) : (signalWrite s v).sig = v := rfl
@[simp] theorem signalWrite_qWord (v : Signal) : (signalWrite s v).qWord = s.qWord := rfl
@[simp] theorem signalWrite_osr (v : Signal) : (signalWrite s v).osr = s.osr := rfl
@[simp] theorem signalWrite_bitsLeft (v : Signal) : (signalWrite s v).bitsLeft = s.bitsLeft := rfl
@[simp] theorem signalWrite_curBit (v : Signal) : (signalWrite s v).curBit = s.curBit := rfl
@[simp] theorem signalWrite_psCnt (v : Signal) : (signalWrite s v).psCnt = s.psCnt := rfl
@[simp] theorem signalWrite_gapOuter (v : Signal) : (signalWrite s v).gapOuter = s.gapOuter := rfl
@[simp] theorem signalWrite_gapInner (v : Signal) : (signalWrite s v).gapInner = s.gapInner := rfl
@[simp] theorem signalWrite_cgCnt (v : Signal) : (signalWrite s v).cgCnt = s.cgCnt := rfl
@[simp] theorem signalWrite_psPhase (v : Signal) : (signalWrite s v).psPhase = s.psPhase := rfl
@[simp] theorem signalWrite_cgStep (v : Signal) : (signalWrite s v).cgStep = s.cgStep := rfl
@[simp] theorem signalWrite_pin (v : Signal) : (signalWrite s v).pin = s.pin := rfl
@[simp] theorem signalWrite_carDiv (v : Signal) : (signalWrite s v).carDiv = s.carDiv := rfl
@[simp] theorem signalWrite_tickDiv (v : Signal) : (signalWrite s v).tickDiv = s.tickDiv := rfl
@[simp] theorem signalWrite_params (v : Signal) : (signalWrite s v).params = s.params := rfl
@[simp] theorem signalWrite_inputs (v : Signal) : (signalWrite s v).inputs = s.inputs := rfl

/-! `drivePin` -/

@[simp] theorem drivePin_active (l : Level) : (drivePin s l).active = s.active := rfl
@[simp] theorem drivePin_cfgErr (l : Level) : (drivePin s l).cfgErr = s.cfgErr := rfl
@[simp] theorem drivePin_qFull (l : Level) : (drivePin s l).qFull = s.qFull := rfl
@[simp] theorem drivePin_sig (l : Level) : (drivePin s l).sig = s.sig := rfl
@[simp] theorem drivePin_qWord (l : Level) : (drivePin s l).qWord = s.qWord := rfl
@[simp] theorem drivePin_osr (l : Level) : (drivePin s l).osr = s.osr := rfl
@[simp] theorem drivePin_bitsLeft (l : Level) : (drivePin s l).bitsLeft = s.bitsLeft := rfl
@[simp] theorem drivePin_curBit (l : Level) : (drivePin s l).curBit = s.curBit := rfl
@[simp] theorem drivePin_psCnt (l : Level) : (drivePin s l).psCnt = s.psCnt := rfl
@[simp] theorem drivePin_gapOuter (l : Level) : (drivePin s l).gapOuter = s.gapOuter := rfl
@[simp] theorem drivePin_gapInner (l : Level) : (drivePin s l).gapInner = s.gapInner := rfl
@[simp] theorem drivePin_cgCnt (l : Level) : (drivePin s l).cgCnt = s.cgCnt := rfl
@[simp] theorem drivePin_psPhase (l : Level) : (drivePin s l).psPhase = s.psPhase := rfl
@[simp] theorem drivePin_cgStep (l : Level) : (drivePin s l).cgStep = s.cgStep := rfl
@[simp] theorem drivePin_pin (l : Level) : (drivePin s l).pin = l := rfl
@[simp] theorem drivePin_carDiv (l : Level) : (drivePin s l).carDiv = s.carDiv := rfl
@[simp] theorem drivePin_tickDiv (l : Level) : (drivePin s l).tickDiv = s.tickDiv := rfl
@[simp] theorem drivePin_params (l : Level) : (drivePin s l).params = s.params := rfl
@[simp] theorem drivePin_inputs (l : Level) : (drivePin s l).inputs = s.inputs := rfl

/-! `loadShiftRegister` -/

@[simp] theorem loadShiftRegister_active (w : CodeWord) : (loadShiftRegister s w).active = s.active := rfl
@[simp] theorem loadShiftRegister_cfgErr (w : CodeWord) : (loadShiftRegister s w).cfgErr = s.cfgErr := rfl
@[simp] theorem loadShiftRegister_qFull (w : CodeWord) : (loadShiftRegister s w).qFull = s.qFull := rfl
@[simp] theorem loadShiftRegister_sig (w : CodeWord) : (loadShiftRegister s w).sig = s.sig := rfl
@[simp] theorem loadShiftRegister_qWord (w : CodeWord) : (loadShiftRegister s w).qWord = s.qWord := rfl
@[simp] theorem loadShiftRegister_osr (w : CodeWord) : (loadShiftRegister s w).osr = w := rfl
@[simp] theorem loadShiftRegister_bitsLeft (w : CodeWord) : (loadShiftRegister s w).bitsLeft = wordBits := rfl
@[simp] theorem loadShiftRegister_curBit (w : CodeWord) : (loadShiftRegister s w).curBit = s.curBit := rfl
@[simp] theorem loadShiftRegister_psCnt (w : CodeWord) : (loadShiftRegister s w).psCnt = s.psCnt := rfl
@[simp] theorem loadShiftRegister_gapOuter (w : CodeWord) : (loadShiftRegister s w).gapOuter = s.gapOuter := rfl
@[simp] theorem loadShiftRegister_gapInner (w : CodeWord) : (loadShiftRegister s w).gapInner = s.gapInner := rfl
@[simp] theorem loadShiftRegister_cgCnt (w : CodeWord) : (loadShiftRegister s w).cgCnt = s.cgCnt := rfl
@[simp] theorem loadShiftRegister_psPhase (w : CodeWord) : (loadShiftRegister s w).psPhase = s.psPhase := rfl
@[simp] theorem loadShiftRegister_cgStep (w : CodeWord) : (loadShiftRegister s w).cgStep = s.cgStep := rfl
@[simp] theorem loadShiftRegister_pin (w : CodeWord) : (loadShiftRegister s w).pin = s.pin := rfl
@[simp] theorem loadShiftRegister_carDiv (w : CodeWord) : (loadShiftRegister s w).carDiv = s.carDiv := rfl
@[simp] theorem loadShiftRegister_tickDiv (w : CodeWord) : (loadShiftRegister s w).tickDiv = s.tickDiv := rfl
@[simp] theorem loadShiftRegister_params (w : CodeWord) : (loadShiftRegister s w).params = s.params := rfl
@[simp] theorem loadShiftRegister_inputs (w : CodeWord) : (loadShiftRegister s w).inputs = s.inputs := rfl

/-! `shiftOut` -/

@[simp] theorem shiftOut_active : (shiftOut s).active = s.active := rfl
@[simp] theorem shiftOut_cfgErr : (shiftOut s).cfgErr = s.cfgErr := rfl
@[simp] theorem shiftOut_qFull : (shiftOut s).qFull = s.qFull := rfl
@[simp] theorem shiftOut_sig : (shiftOut s).sig = s.sig := rfl
@[simp] theorem shiftOut_qWord : (shiftOut s).qWord = s.qWord := rfl
@[simp] theorem shiftOut_osr : (shiftOut s).osr = s.osr >>> 1 := rfl
@[simp] theorem shiftOut_bitsLeft : (shiftOut s).bitsLeft = s.bitsLeft - 1#6 := rfl
@[simp] theorem shiftOut_curBit : (shiftOut s).curBit = nextBit s := rfl
@[simp] theorem shiftOut_psCnt : (shiftOut s).psCnt = s.psCnt := rfl
@[simp] theorem shiftOut_gapOuter : (shiftOut s).gapOuter = s.gapOuter := rfl
@[simp] theorem shiftOut_gapInner : (shiftOut s).gapInner = s.gapInner := rfl
@[simp] theorem shiftOut_cgCnt : (shiftOut s).cgCnt = s.cgCnt := rfl
@[simp] theorem shiftOut_psPhase : (shiftOut s).psPhase = s.psPhase := rfl
@[simp] theorem shiftOut_cgStep : (shiftOut s).cgStep = s.cgStep := rfl
@[simp] theorem shiftOut_pin : (shiftOut s).pin = s.pin := rfl
@[simp] theorem shiftOut_carDiv : (shiftOut s).carDiv = s.carDiv := rfl
@[simp] theorem shiftOut_tickDiv : (shiftOut s).tickDiv = s.tickDiv := rfl
@[simp] theorem shiftOut_params : (shiftOut s).params = s.params := rfl
@[simp] theorem shiftOut_inputs : (shiftOut s).inputs = s.inputs := rfl

/-! `enterPhase` -/

@[simp] theorem enterPhase_active (p : Phase) (n : BitVec 9) : (enterPhase s p n).active = s.active := rfl
@[simp] theorem enterPhase_cfgErr (p : Phase) (n : BitVec 9) : (enterPhase s p n).cfgErr = s.cfgErr := rfl
@[simp] theorem enterPhase_qFull (p : Phase) (n : BitVec 9) : (enterPhase s p n).qFull = s.qFull := rfl
@[simp] theorem enterPhase_sig (p : Phase) (n : BitVec 9) : (enterPhase s p n).sig = s.sig := rfl
@[simp] theorem enterPhase_qWord (p : Phase) (n : BitVec 9) : (enterPhase s p n).qWord = s.qWord := rfl
@[simp] theorem enterPhase_osr (p : Phase) (n : BitVec 9) : (enterPhase s p n).osr = s.osr := rfl
@[simp] theorem enterPhase_bitsLeft (p : Phase) (n : BitVec 9) : (enterPhase s p n).bitsLeft = s.bitsLeft := rfl
@[simp] theorem enterPhase_curBit (p : Phase) (n : BitVec 9) : (enterPhase s p n).curBit = s.curBit := rfl
@[simp] theorem enterPhase_psCnt (p : Phase) (n : BitVec 9) : (enterPhase s p n).psCnt = n := rfl
@[simp] theorem enterPhase_gapOuter (p : Phase) (n : BitVec 9) : (enterPhase s p n).gapOuter = s.gapOuter := rfl
@[simp] theorem enterPhase_gapInner (p : Phase) (n : BitVec 9) : (enterPhase s p n).gapInner = s.gapInner := rfl
@[simp] theorem enterPhase_cgCnt (p : Phase) (n : BitVec 9) : (enterPhase s p n).cgCnt = s.cgCnt := rfl
@[simp] theorem enterPhase_psPhase (p : Phase) (n : BitVec 9) : (enterPhase s p n).psPhase = p := rfl
@[simp] theorem enterPhase_cgStep (p : Phase) (n : BitVec 9) : (enterPhase s p n).cgStep = s.cgStep := rfl
@[simp] theorem enterPhase_pin (p : Phase) (n : BitVec 9) : (enterPhase s p n).pin = s.pin := rfl
@[simp] theorem enterPhase_carDiv (p : Phase) (n : BitVec 9) : (enterPhase s p n).carDiv = s.carDiv := rfl
@[simp] theorem enterPhase_tickDiv (p : Phase) (n : BitVec 9) : (enterPhase s p n).tickDiv = s.tickDiv := rfl
@[simp] theorem enterPhase_params (p : Phase) (n : BitVec 9) : (enterPhase s p n).params = s.params := rfl
@[simp] theorem enterPhase_inputs (p : Phase) (n : BitVec 9) : (enterPhase s p n).inputs = s.inputs := rfl

/-! `countTick` -/

@[simp] theorem countTick_active : (countTick s).active = s.active := rfl
@[simp] theorem countTick_cfgErr : (countTick s).cfgErr = s.cfgErr := rfl
@[simp] theorem countTick_qFull : (countTick s).qFull = s.qFull := rfl
@[simp] theorem countTick_sig : (countTick s).sig = s.sig := rfl
@[simp] theorem countTick_qWord : (countTick s).qWord = s.qWord := rfl
@[simp] theorem countTick_osr : (countTick s).osr = s.osr := rfl
@[simp] theorem countTick_bitsLeft : (countTick s).bitsLeft = s.bitsLeft := rfl
@[simp] theorem countTick_curBit : (countTick s).curBit = s.curBit := rfl
@[simp] theorem countTick_psCnt : (countTick s).psCnt = s.psCnt - 1#9 := rfl
@[simp] theorem countTick_gapOuter : (countTick s).gapOuter = s.gapOuter := rfl
@[simp] theorem countTick_gapInner : (countTick s).gapInner = s.gapInner := rfl
@[simp] theorem countTick_cgCnt : (countTick s).cgCnt = s.cgCnt := rfl
@[simp] theorem countTick_psPhase : (countTick s).psPhase = s.psPhase := rfl
@[simp] theorem countTick_cgStep : (countTick s).cgStep = s.cgStep := rfl
@[simp] theorem countTick_pin : (countTick s).pin = s.pin := rfl
@[simp] theorem countTick_carDiv : (countTick s).carDiv = s.carDiv := rfl
@[simp] theorem countTick_tickDiv : (countTick s).tickDiv = s.tickDiv := rfl
@[simp] theorem countTick_params : (countTick s).params = s.params := rfl
@[simp] theorem countTick_inputs : (countTick s).inputs = s.inputs := rfl

/-! `setGapLoops` -/

@[simp] theorem setGapLoops_active (o : BitVec 2) (i : BitVec 5) : (setGapLoops s o i).active = s.active := rfl
@[simp] theorem setGapLoops_cfgErr (o : BitVec 2) (i : BitVec 5) : (setGapLoops s o i).cfgErr = s.cfgErr := rfl
@[simp] theorem setGapLoops_qFull (o : BitVec 2) (i : BitVec 5) : (setGapLoops s o i).qFull = s.qFull := rfl
@[simp] theorem setGapLoops_sig (o : BitVec 2) (i : BitVec 5) : (setGapLoops s o i).sig = s.sig := rfl
@[simp] theorem setGapLoops_qWord (o : BitVec 2) (i : BitVec 5) : (setGapLoops s o i).qWord = s.qWord := rfl
@[simp] theorem setGapLoops_osr (o : BitVec 2) (i : BitVec 5) : (setGapLoops s o i).osr = s.osr := rfl
@[simp] theorem setGapLoops_bitsLeft (o : BitVec 2) (i : BitVec 5) : (setGapLoops s o i).bitsLeft = s.bitsLeft := rfl
@[simp] theorem setGapLoops_curBit (o : BitVec 2) (i : BitVec 5) : (setGapLoops s o i).curBit = s.curBit := rfl
@[simp] theorem setGapLoops_psCnt (o : BitVec 2) (i : BitVec 5) : (setGapLoops s o i).psCnt = s.psCnt := rfl
@[simp] theorem setGapLoops_gapOuter (o : BitVec 2) (i : BitVec 5) : (setGapLoops s o i).gapOuter = o := rfl
@[simp] theorem setGapLoops_gapInner (o : BitVec 2) (i : BitVec 5) : (setGapLoops s o i).gapInner = i := rfl
@[simp] theorem setGapLoops_cgCnt (o : BitVec 2) (i : BitVec 5) : (setGapLoops s o i).cgCnt = s.cgCnt := rfl
@[simp] theorem setGapLoops_psPhase (o : BitVec 2) (i : BitVec 5) : (setGapLoops s o i).psPhase = s.psPhase := rfl
@[simp] theorem setGapLoops_cgStep (o : BitVec 2) (i : BitVec 5) : (setGapLoops s o i).cgStep = s.cgStep := rfl
@[simp] theorem setGapLoops_pin (o : BitVec 2) (i : BitVec 5) : (setGapLoops s o i).pin = s.pin := rfl
@[simp] theorem setGapLoops_carDiv (o : BitVec 2) (i : BitVec 5) : (setGapLoops s o i).carDiv = s.carDiv := rfl
@[simp] theorem setGapLoops_tickDiv (o : BitVec 2) (i : BitVec 5) : (setGapLoops s o i).tickDiv = s.tickDiv := rfl
@[simp] theorem setGapLoops_params (o : BitVec 2) (i : BitVec 5) : (setGapLoops s o i).params = s.params := rfl
@[simp] theorem setGapLoops_inputs (o : BitVec 2) (i : BitVec 5) : (setGapLoops s o i).inputs = s.inputs := rfl

/-! `reloadGapBody` -/

@[simp] theorem reloadGapBody_active : (reloadGapBody s).active = s.active := rfl
@[simp] theorem reloadGapBody_cfgErr : (reloadGapBody s).cfgErr = s.cfgErr := rfl
@[simp] theorem reloadGapBody_qFull : (reloadGapBody s).qFull = s.qFull := rfl
@[simp] theorem reloadGapBody_sig : (reloadGapBody s).sig = s.sig := rfl
@[simp] theorem reloadGapBody_qWord : (reloadGapBody s).qWord = s.qWord := rfl
@[simp] theorem reloadGapBody_osr : (reloadGapBody s).osr = s.osr := rfl
@[simp] theorem reloadGapBody_bitsLeft : (reloadGapBody s).bitsLeft = s.bitsLeft := rfl
@[simp] theorem reloadGapBody_curBit : (reloadGapBody s).curBit = s.curBit := rfl
@[simp] theorem reloadGapBody_psCnt : (reloadGapBody s).psCnt = gapBody := rfl
@[simp] theorem reloadGapBody_gapOuter : (reloadGapBody s).gapOuter = s.gapOuter := rfl
@[simp] theorem reloadGapBody_gapInner : (reloadGapBody s).gapInner = s.gapInner := rfl
@[simp] theorem reloadGapBody_cgCnt : (reloadGapBody s).cgCnt = s.cgCnt := rfl
@[simp] theorem reloadGapBody_psPhase : (reloadGapBody s).psPhase = s.psPhase := rfl
@[simp] theorem reloadGapBody_cgStep : (reloadGapBody s).cgStep = s.cgStep := rfl
@[simp] theorem reloadGapBody_pin : (reloadGapBody s).pin = s.pin := rfl
@[simp] theorem reloadGapBody_carDiv : (reloadGapBody s).carDiv = s.carDiv := rfl
@[simp] theorem reloadGapBody_tickDiv : (reloadGapBody s).tickDiv = s.tickDiv := rfl
@[simp] theorem reloadGapBody_params : (reloadGapBody s).params = s.params := rfl
@[simp] theorem reloadGapBody_inputs : (reloadGapBody s).inputs = s.inputs := rfl

/-! `enterStep` -/

@[simp] theorem enterStep_active (g : CgStep) (n : BitVec 3) : (enterStep s g n).active = s.active := rfl
@[simp] theorem enterStep_cfgErr (g : CgStep) (n : BitVec 3) : (enterStep s g n).cfgErr = s.cfgErr := rfl
@[simp] theorem enterStep_qFull (g : CgStep) (n : BitVec 3) : (enterStep s g n).qFull = s.qFull := rfl
@[simp] theorem enterStep_sig (g : CgStep) (n : BitVec 3) : (enterStep s g n).sig = s.sig := rfl
@[simp] theorem enterStep_qWord (g : CgStep) (n : BitVec 3) : (enterStep s g n).qWord = s.qWord := rfl
@[simp] theorem enterStep_osr (g : CgStep) (n : BitVec 3) : (enterStep s g n).osr = s.osr := rfl
@[simp] theorem enterStep_bitsLeft (g : CgStep) (n : BitVec 3) : (enterStep s g n).bitsLeft = s.bitsLeft := rfl
@[simp] theorem enterStep_curBit (g : CgStep) (n : BitVec 3) : (enterStep s g n).curBit = s.curBit := rfl
@[simp] theorem enterStep_psCnt (g : CgStep) (n : BitVec 3) : (enterStep s g n).psCnt = s.psCnt := rfl
@[simp] theorem enterStep_gapOuter (g : CgStep) (n : BitVec 3) : (enterStep s g n).gapOuter = s.gapOuter := rfl
@[simp] theorem enterStep_gapInner (g : CgStep) (n : BitVec 3) : (enterStep s g n).gapInner = s.gapInner := rfl
@[simp] theorem enterStep_cgCnt (g : CgStep) (n : BitVec 3) : (enterStep s g n).cgCnt = n := rfl
@[simp] theorem enterStep_psPhase (g : CgStep) (n : BitVec 3) : (enterStep s g n).psPhase = s.psPhase := rfl
@[simp] theorem enterStep_cgStep (g : CgStep) (n : BitVec 3) : (enterStep s g n).cgStep = g := rfl
@[simp] theorem enterStep_pin (g : CgStep) (n : BitVec 3) : (enterStep s g n).pin = s.pin := rfl
@[simp] theorem enterStep_carDiv (g : CgStep) (n : BitVec 3) : (enterStep s g n).carDiv = s.carDiv := rfl
@[simp] theorem enterStep_tickDiv (g : CgStep) (n : BitVec 3) : (enterStep s g n).tickDiv = s.tickDiv := rfl
@[simp] theorem enterStep_params (g : CgStep) (n : BitVec 3) : (enterStep s g n).params = s.params := rfl
@[simp] theorem enterStep_inputs (g : CgStep) (n : BitVec 3) : (enterStep s g n).inputs = s.inputs := rfl

/-! `countClock` -/

@[simp] theorem countClock_active : (countClock s).active = s.active := rfl
@[simp] theorem countClock_cfgErr : (countClock s).cfgErr = s.cfgErr := rfl
@[simp] theorem countClock_qFull : (countClock s).qFull = s.qFull := rfl
@[simp] theorem countClock_sig : (countClock s).sig = s.sig := rfl
@[simp] theorem countClock_qWord : (countClock s).qWord = s.qWord := rfl
@[simp] theorem countClock_osr : (countClock s).osr = s.osr := rfl
@[simp] theorem countClock_bitsLeft : (countClock s).bitsLeft = s.bitsLeft := rfl
@[simp] theorem countClock_curBit : (countClock s).curBit = s.curBit := rfl
@[simp] theorem countClock_psCnt : (countClock s).psCnt = s.psCnt := rfl
@[simp] theorem countClock_gapOuter : (countClock s).gapOuter = s.gapOuter := rfl
@[simp] theorem countClock_gapInner : (countClock s).gapInner = s.gapInner := rfl
@[simp] theorem countClock_cgCnt : (countClock s).cgCnt = s.cgCnt - 1#3 := rfl
@[simp] theorem countClock_psPhase : (countClock s).psPhase = s.psPhase := rfl
@[simp] theorem countClock_cgStep : (countClock s).cgStep = s.cgStep := rfl
@[simp] theorem countClock_pin : (countClock s).pin = s.pin := rfl
@[simp] theorem countClock_carDiv : (countClock s).carDiv = s.carDiv := rfl
@[simp] theorem countClock_tickDiv : (countClock s).tickDiv = s.tickDiv := rfl
@[simp] theorem countClock_params : (countClock s).params = s.params := rfl
@[simp] theorem countClock_inputs : (countClock s).inputs = s.inputs := rfl

/-! `startEngines` -/

@[simp] theorem startEngines_active : (startEngines s).active = true := rfl
@[simp] theorem startEngines_cfgErr : (startEngines s).cfgErr = s.cfgErr := rfl
@[simp] theorem startEngines_qFull : (startEngines s).qFull = s.qFull := rfl
@[simp] theorem startEngines_sig : (startEngines s).sig = s.sig := rfl
@[simp] theorem startEngines_qWord : (startEngines s).qWord = s.qWord := rfl
@[simp] theorem startEngines_osr : (startEngines s).osr = s.osr := rfl
@[simp] theorem startEngines_bitsLeft : (startEngines s).bitsLeft = s.bitsLeft := rfl
@[simp] theorem startEngines_curBit : (startEngines s).curBit = s.curBit := rfl
@[simp] theorem startEngines_psCnt : (startEngines s).psCnt = s.psCnt := rfl
@[simp] theorem startEngines_gapOuter : (startEngines s).gapOuter = s.gapOuter := rfl
@[simp] theorem startEngines_gapInner : (startEngines s).gapInner = s.gapInner := rfl
@[simp] theorem startEngines_cgCnt : (startEngines s).cgCnt = s.cgCnt := rfl
@[simp] theorem startEngines_psPhase : (startEngines s).psPhase = s.psPhase := rfl
@[simp] theorem startEngines_cgStep : (startEngines s).cgStep = s.cgStep := rfl
@[simp] theorem startEngines_pin : (startEngines s).pin = s.pin := rfl
@[simp] theorem startEngines_carDiv : (startEngines s).carDiv = s.carDiv := rfl
@[simp] theorem startEngines_tickDiv : (startEngines s).tickDiv = s.tickDiv := rfl
@[simp] theorem startEngines_params : (startEngines s).params = s.params := rfl
@[simp] theorem startEngines_inputs : (startEngines s).inputs = s.inputs := rfl

/-! `stopEngines` -/

@[simp] theorem stopEngines_active : (stopEngines s).active = false := rfl
@[simp] theorem stopEngines_cfgErr : (stopEngines s).cfgErr = s.cfgErr := rfl
@[simp] theorem stopEngines_qFull : (stopEngines s).qFull = s.qFull := rfl
@[simp] theorem stopEngines_sig : (stopEngines s).sig = s.sig := rfl
@[simp] theorem stopEngines_qWord : (stopEngines s).qWord = s.qWord := rfl
@[simp] theorem stopEngines_osr : (stopEngines s).osr = 0#32 := rfl
@[simp] theorem stopEngines_bitsLeft : (stopEngines s).bitsLeft = 0#6 := rfl
@[simp] theorem stopEngines_curBit : (stopEngines s).curBit = false := rfl
@[simp] theorem stopEngines_psCnt : (stopEngines s).psCnt = 0#9 := rfl
@[simp] theorem stopEngines_gapOuter : (stopEngines s).gapOuter = 0#2 := rfl
@[simp] theorem stopEngines_gapInner : (stopEngines s).gapInner = 0#5 := rfl
@[simp] theorem stopEngines_cgCnt : (stopEngines s).cgCnt = cgLowClks := rfl
@[simp] theorem stopEngines_psPhase : (stopEngines s).psPhase = .idle := rfl
@[simp] theorem stopEngines_cgStep : (stopEngines s).cgStep = .low := rfl
@[simp] theorem stopEngines_pin : (stopEngines s).pin = s.pin := rfl
@[simp] theorem stopEngines_carDiv : (stopEngines s).carDiv = s.carDiv := rfl
@[simp] theorem stopEngines_tickDiv : (stopEngines s).tickDiv = s.tickDiv := rfl
@[simp] theorem stopEngines_params : (stopEngines s).params = s.params := rfl
@[simp] theorem stopEngines_inputs : (stopEngines s).inputs = s.inputs := rfl

/-! `raiseConfigError` -/

@[simp] theorem raiseConfigError_active : (raiseConfigError s).active = s.active := rfl
@[simp] theorem raiseConfigError_cfgErr : (raiseConfigError s).cfgErr = true := rfl
@[simp] theorem raiseConfigError_qFull : (raiseConfigError s).qFull = s.qFull := rfl
@[simp] theorem raiseConfigError_sig : (raiseConfigError s).sig = s.sig := rfl
@[simp] theorem raiseConfigError_qWord : (raiseConfigError s).qWord = s.qWord := rfl
@[simp] theorem raiseConfigError_osr : (raiseConfigError s).osr = s.osr := rfl
@[simp] theorem raiseConfigError_bitsLeft : (raiseConfigError s).bitsLeft = s.bitsLeft := rfl
@[simp] theorem raiseConfigError_curBit : (raiseConfigError s).curBit = s.curBit := rfl
@[simp] theorem raiseConfigError_psCnt : (raiseConfigError s).psCnt = s.psCnt := rfl
@[simp] theorem raiseConfigError_gapOuter : (raiseConfigError s).gapOuter = s.gapOuter := rfl
@[simp] theorem raiseConfigError_gapInner : (raiseConfigError s).gapInner = s.gapInner := rfl
@[simp] theorem raiseConfigError_cgCnt : (raiseConfigError s).cgCnt = s.cgCnt := rfl
@[simp] theorem raiseConfigError_psPhase : (raiseConfigError s).psPhase = s.psPhase := rfl
@[simp] theorem raiseConfigError_cgStep : (raiseConfigError s).cgStep = s.cgStep := rfl
@[simp] theorem raiseConfigError_pin : (raiseConfigError s).pin = s.pin := rfl
@[simp] theorem raiseConfigError_carDiv : (raiseConfigError s).carDiv = s.carDiv := rfl
@[simp] theorem raiseConfigError_tickDiv : (raiseConfigError s).tickDiv = s.tickDiv := rfl
@[simp] theorem raiseConfigError_params : (raiseConfigError s).params = s.params := rfl
@[simp] theorem raiseConfigError_inputs : (raiseConfigError s).inputs = s.inputs := rfl

/-! `takeReset` -/

@[simp] theorem takeReset_active : (takeReset s).active = false := rfl
@[simp] theorem takeReset_cfgErr : (takeReset s).cfgErr = false := rfl
@[simp] theorem takeReset_qFull : (takeReset s).qFull = false := rfl
@[simp] theorem takeReset_sig : (takeReset s).sig = .set := rfl
@[simp] theorem takeReset_qWord : (takeReset s).qWord = 0#32 := rfl
@[simp] theorem takeReset_osr : (takeReset s).osr = 0#32 := rfl
@[simp] theorem takeReset_bitsLeft : (takeReset s).bitsLeft = 0#6 := rfl
@[simp] theorem takeReset_curBit : (takeReset s).curBit = false := rfl
@[simp] theorem takeReset_psCnt : (takeReset s).psCnt = 0#9 := rfl
@[simp] theorem takeReset_gapOuter : (takeReset s).gapOuter = 0#2 := rfl
@[simp] theorem takeReset_gapInner : (takeReset s).gapInner = 0#5 := rfl
@[simp] theorem takeReset_cgCnt : (takeReset s).cgCnt = 4#3 := rfl
@[simp] theorem takeReset_psPhase : (takeReset s).psPhase = .idle := rfl
@[simp] theorem takeReset_cgStep : (takeReset s).cgStep = .low := rfl
@[simp] theorem takeReset_pin : (takeReset s).pin = .low := rfl
@[simp] theorem takeReset_carDiv : (takeReset s).carDiv = 0#3 := rfl
@[simp] theorem takeReset_tickDiv : (takeReset s).tickDiv = 0#6 := rfl
@[simp] theorem takeReset_params : (takeReset s).params = s.params := rfl
@[simp] theorem takeReset_inputs : (takeReset s).inputs = s.inputs := rfl

/-! `advanceDividers` -/

@[simp] theorem advanceDividers_active : (advanceDividers s).active = s.active := rfl
@[simp] theorem advanceDividers_cfgErr : (advanceDividers s).cfgErr = s.cfgErr := rfl
@[simp] theorem advanceDividers_qFull : (advanceDividers s).qFull = s.qFull := rfl
@[simp] theorem advanceDividers_sig : (advanceDividers s).sig = s.sig := rfl
@[simp] theorem advanceDividers_qWord : (advanceDividers s).qWord = s.qWord := rfl
@[simp] theorem advanceDividers_osr : (advanceDividers s).osr = s.osr := rfl
@[simp] theorem advanceDividers_bitsLeft : (advanceDividers s).bitsLeft = s.bitsLeft := rfl
@[simp] theorem advanceDividers_curBit : (advanceDividers s).curBit = s.curBit := rfl
@[simp] theorem advanceDividers_psCnt : (advanceDividers s).psCnt = s.psCnt := rfl
@[simp] theorem advanceDividers_gapOuter : (advanceDividers s).gapOuter = s.gapOuter := rfl
@[simp] theorem advanceDividers_gapInner : (advanceDividers s).gapInner = s.gapInner := rfl
@[simp] theorem advanceDividers_cgCnt : (advanceDividers s).cgCnt = s.cgCnt := rfl
@[simp] theorem advanceDividers_psPhase : (advanceDividers s).psPhase = s.psPhase := rfl
@[simp] theorem advanceDividers_cgStep : (advanceDividers s).cgStep = s.cgStep := rfl
@[simp] theorem advanceDividers_pin : (advanceDividers s).pin = s.pin := rfl
@[simp] theorem advanceDividers_carDiv : (advanceDividers s).carDiv = nextCarDiv s.carDiv := rfl
@[simp] theorem advanceDividers_tickDiv : (advanceDividers s).tickDiv = nextTickDiv s.tickDiv := rfl
@[simp] theorem advanceDividers_params : (advanceDividers s).params = s.params := rfl
@[simp] theorem advanceDividers_inputs : (advanceDividers s).inputs = s.inputs := rfl

/-! `consumeInputs` -/

@[simp] theorem consumeInputs_active : (consumeInputs s).active = s.active := rfl
@[simp] theorem consumeInputs_cfgErr : (consumeInputs s).cfgErr = s.cfgErr := rfl
@[simp] theorem consumeInputs_qFull : (consumeInputs s).qFull = s.qFull := rfl
@[simp] theorem consumeInputs_sig : (consumeInputs s).sig = s.sig := rfl
@[simp] theorem consumeInputs_qWord : (consumeInputs s).qWord = s.qWord := rfl
@[simp] theorem consumeInputs_osr : (consumeInputs s).osr = s.osr := rfl
@[simp] theorem consumeInputs_bitsLeft : (consumeInputs s).bitsLeft = s.bitsLeft := rfl
@[simp] theorem consumeInputs_curBit : (consumeInputs s).curBit = s.curBit := rfl
@[simp] theorem consumeInputs_psCnt : (consumeInputs s).psCnt = s.psCnt := rfl
@[simp] theorem consumeInputs_gapOuter : (consumeInputs s).gapOuter = s.gapOuter := rfl
@[simp] theorem consumeInputs_gapInner : (consumeInputs s).gapInner = s.gapInner := rfl
@[simp] theorem consumeInputs_cgCnt : (consumeInputs s).cgCnt = s.cgCnt := rfl
@[simp] theorem consumeInputs_psPhase : (consumeInputs s).psPhase = s.psPhase := rfl
@[simp] theorem consumeInputs_cgStep : (consumeInputs s).cgStep = s.cgStep := rfl
@[simp] theorem consumeInputs_pin : (consumeInputs s).pin = s.pin := rfl
@[simp] theorem consumeInputs_carDiv : (consumeInputs s).carDiv = s.carDiv := rfl
@[simp] theorem consumeInputs_tickDiv : (consumeInputs s).tickDiv = s.tickDiv := rfl
@[simp] theorem consumeInputs_params : (consumeInputs s).params = s.params := rfl
@[simp] theorem consumeInputs_inputs : (consumeInputs s).inputs = s.inputs.tail := rfl

/-! `endCycle` -/

@[simp] theorem endCycle_active : (endCycle s).active = s.active := rfl
@[simp] theorem endCycle_cfgErr : (endCycle s).cfgErr = s.cfgErr := rfl
@[simp] theorem endCycle_qFull : (endCycle s).qFull = s.qFull := rfl
@[simp] theorem endCycle_sig : (endCycle s).sig = s.sig := rfl
@[simp] theorem endCycle_qWord : (endCycle s).qWord = s.qWord := rfl
@[simp] theorem endCycle_osr : (endCycle s).osr = s.osr := rfl
@[simp] theorem endCycle_bitsLeft : (endCycle s).bitsLeft = s.bitsLeft := rfl
@[simp] theorem endCycle_curBit : (endCycle s).curBit = s.curBit := rfl
@[simp] theorem endCycle_psCnt : (endCycle s).psCnt = s.psCnt := rfl
@[simp] theorem endCycle_gapOuter : (endCycle s).gapOuter = s.gapOuter := rfl
@[simp] theorem endCycle_gapInner : (endCycle s).gapInner = s.gapInner := rfl
@[simp] theorem endCycle_cgCnt : (endCycle s).cgCnt = s.cgCnt := rfl
@[simp] theorem endCycle_psPhase : (endCycle s).psPhase = s.psPhase := rfl
@[simp] theorem endCycle_cgStep : (endCycle s).cgStep = s.cgStep := rfl
@[simp] theorem endCycle_pin : (endCycle s).pin = s.pin := rfl
@[simp] theorem endCycle_carDiv : (endCycle s).carDiv = nextCarDiv s.carDiv := rfl
@[simp] theorem endCycle_tickDiv : (endCycle s).tickDiv = nextTickDiv s.tickDiv := rfl
@[simp] theorem endCycle_params : (endCycle s).params = s.params := rfl
@[simp] theorem endCycle_inputs : (endCycle s).inputs = s.inputs.tail := rfl

/-! The state after reset, on a given platform (R43). -/

@[simp] theorem resetWith_active (p : Params) : (State.resetWith p).active = false := rfl
@[simp] theorem resetWith_cfgErr (p : Params) : (State.resetWith p).cfgErr = false := rfl
@[simp] theorem resetWith_qFull (p : Params) : (State.resetWith p).qFull = false := rfl
@[simp] theorem resetWith_sig (p : Params) : (State.resetWith p).sig = .set := rfl
@[simp] theorem resetWith_qWord (p : Params) : (State.resetWith p).qWord = 0#32 := rfl
@[simp] theorem resetWith_osr (p : Params) : (State.resetWith p).osr = 0#32 := rfl
@[simp] theorem resetWith_bitsLeft (p : Params) : (State.resetWith p).bitsLeft = 0#6 := rfl
@[simp] theorem resetWith_curBit (p : Params) : (State.resetWith p).curBit = false := rfl
@[simp] theorem resetWith_psCnt (p : Params) : (State.resetWith p).psCnt = 0#9 := rfl
@[simp] theorem resetWith_gapOuter (p : Params) : (State.resetWith p).gapOuter = 0#2 := rfl
@[simp] theorem resetWith_gapInner (p : Params) : (State.resetWith p).gapInner = 0#5 := rfl
@[simp] theorem resetWith_cgCnt (p : Params) : (State.resetWith p).cgCnt = 4#3 := rfl
@[simp] theorem resetWith_psPhase (p : Params) : (State.resetWith p).psPhase = .idle := rfl
@[simp] theorem resetWith_cgStep (p : Params) : (State.resetWith p).cgStep = .low := rfl
@[simp] theorem resetWith_pin (p : Params) : (State.resetWith p).pin = .low := rfl
@[simp] theorem resetWith_carDiv (p : Params) : (State.resetWith p).carDiv = 0#3 := rfl
@[simp] theorem resetWith_tickDiv (p : Params) : (State.resetWith p).tickDiv = 0#6 := rfl
@[simp] theorem resetWith_params (p : Params) : (State.resetWith p).params = p := rfl
@[simp] theorem resetWith_inputs (p : Params) : (State.resetWith p).inputs = [] := rfl

end Sys2Proof.Machine
end

