-- ==== Sys2Proof/Laws/Ops.lean ====
section
/-!
SUPPORT. For each shared operation that chooses, one lemma that says all it can do; the operations that only
write are said whole by Laws/State.lean.
-/

namespace Sys2Proof.Machine

/-! ### The parts of a cycle -/

@[simp] theorem andThen_next (s : State) (f : State → Host.Outcome State Fault Refusal) :
    andThen (.next s) f = f s := rfl

/-- If a sequence of two parts answers a next state, the first part answered one, on which the second ran. -/
theorem andThen_eq_next {o : Host.Outcome State Fault Refusal}
    {f : State → Host.Outcome State Fault Refusal} {t : State} (h : andThen o f = .next t) :
    ∃ u, o = .next u ∧ f u = .next t := by
  cases o with
  | next u => exact ⟨u, rfl, h⟩
  | fault r => exact nomatch r
  | refused r => cases h

/-! ### Timed phases (R131) -/

/-- A timed phase either counts a tick off or makes its transfer. -/
theorem timedPhase_cases (s t : State) :
    (phaseCounting s = true ∧ timedPhase s t = countTick s) ∨ (phaseCounting s = false ∧ timedPhase s t = t) := by
  unfold timedPhase
  cases phaseCounting s <;> simp

theorem timedPhase_of_counting {s : State} (t : State) (h : 1#9 < s.psCnt) : timedPhase s t = countTick s := by
  simp [timedPhase, phaseCounting, h]

theorem timedPhase_of_last {s : State} (t : State) (h : ¬ 1#9 < s.psCnt) : timedPhase s t = t := by
  simp [timedPhase, phaseCounting, h]

/-! ### Conditions -/

@[simp] theorem signalCleared_iff (s : State) : signalCleared s = true ↔ s.sig = .cleared := by
  simp [signalCleared]

@[simp] theorem phaseCounting_iff (s : State) : phaseCounting s = true ↔ 1#9 < s.psCnt := by
  simp [phaseCounting]

@[simp] theorem stepCounting_iff (s : State) : stepCounting s = true ↔ 1#3 < s.cgCnt := by
  simp [stepCounting]

@[simp] theorem outputRegisterEmpty_iff (s : State) : outputRegisterEmpty s = true ↔ s.bitsLeft = 0#6 := by
  simp [outputRegisterEmpty]

@[simp] theorem innerLoopCounting_iff (s : State) : innerLoopCounting s = true ↔ 1#5 < s.gapInner := by
  simp [innerLoopCounting]

@[simp] theorem outerLoopCounting_iff (s : State) : outerLoopCounting s = true ↔ 1#2 < s.gapOuter := by
  simp [outerLoopCounting]

/-! ### The dividers (R41) -/

@[simp] theorem nextCarDiv_toNat (d : BitVec 3) : (nextCarDiv d).toNat = (d.toNat + 1) % 5 := by
  simp only [nextCarDiv, BitVec.toNat_ofNat, basePerCar]; omega

@[simp] theorem nextTickDiv_toNat (d : BitVec 6) : (nextTickDiv d).toNat = (d.toNat + 1) % 38 := by
  simp only [nextTickDiv, BitVec.toNat_ofNat, basePerTick]; omega

theorem carEn_iff (s : State) : carEn s = true ↔ s.carDiv.toNat = s.params.carPhase.val := by
  simp [carEn]

theorem tickEn_iff (s : State) : tickEn s = true ↔ s.tickDiv.toNat = s.params.tickPhase.val := by
  simp [tickEn]

end Sys2Proof.Machine
end

