-- ==== Sys2Proof/Laws/Step.lean ====
section
/-!
SUPPORT. What one base cycle can do, said once: later proofs cite `step_parts` and `step_reset` and do not unfold
the step.
-/

namespace Sys2Proof.Machine

/-- The next state a meaning gives. -/
def resultOf (i : Instr) (s : State) : State :=
  match exec i s with
  | .next t => t
  | .fault _ => s
  | .refused _ => s

/-- Every meaning gives its result as a next state. -/
theorem exec_eq_resultOf (i : Instr) (s : State) : exec i s = .next (resultOf i s) := by
  cases i <;> rfl

/-- The next state of an instruction that may be absent. -/
def partResult (o : Option Instr) (s : State) : State :=
  match o with
  | none => s
  | some i => resultOf i s

@[simp] theorem partResult_none (s : State) : partResult none s = s := rfl

@[simp] theorem partResult_some (i : Instr) (s : State) : partResult (some i) s = resultOf i s := rfl

theorem runInstr_eq (o : Option Instr) (s : State) : runInstr o s = .next (partResult o s) := by
  cases o with
  | none => rfl
  | some i => exact exec_eq_resultOf i s

/-- A base cycle with reset (R220). -/
theorem step_reset {s : State} (h : (portInputs s).rst = true) : step s = .next (consumeInputs (takeReset s)) := by
  simp [step, runCycle, h]

/-- A base cycle without reset: carrier step, phase, host operation, dividers (R183). -/
theorem step_parts {s : State} (h : (portInputs s).rst = false) :
    step s = .next (endCycle (partResult (hostInstr s)
      (partResult (sequencerInstr s) (partResult (carrierInstr s) s)))) := by
  simp [step, runCycle, h, runParts, runInstr_eq]

/-- If the step answers a next state, it is one of these two. -/
theorem step_cases {s t : State} (h : step s = .next t) :
    ((portInputs s).rst = true ∧ t = consumeInputs (takeReset s)) ∨
    ((portInputs s).rst = false ∧ t = endCycle (partResult (hostInstr s)
      (partResult (sequencerInstr s) (partResult (carrierInstr s) s)))) := by
  cases hr : (portInputs s).rst with
  | true => rw [step_reset hr] at h; cases h; exact .inl ⟨rfl, rfl⟩
  | false => rw [step_parts hr] at h; cases h; exact .inr ⟨rfl, rfl⟩

theorem advance_reset {s : State} (h : (portInputs s).rst = true) : advance s = consumeInputs (takeReset s) := by
  simp [advance, step_reset h]

theorem advance_parts {s : State} (h : (portInputs s).rst = false) :
    advance s = endCycle (partResult (hostInstr s)
      (partResult (sequencerInstr s) (partResult (carrierInstr s) s))) := by
  simp [advance, step_parts h]

/-! ### What each meaning gives -/

section
variable (s : State)

@[simp] theorem resultOf_activate :
    resultOf .activate s = if s.params.cfgOk then startEngines s else raiseConfigError s := rfl

@[simp] theorem resultOf_deactivate :
    resultOf .deactivate s = stopEngines (if s.psPhase = .idle then s else queueRelease s) := rfl

@[simp] theorem resultOf_send (a c : Field) :
    resultOf (.send a c) s = if s.qFull then s else queueWrite s (codeWord a c) := rfl

@[simp] theorem resultOf_reserved : resultOf .reserved s = s := rfl

@[simp] theorem resultOf_idle :
    resultOf .idle s = if s.qFull then
      enterPhase (signalWrite (loadShiftRegister s s.qWord) .cleared) .leaderPulse tLeaderPulse else s := rfl

@[simp] theorem resultOf_leaderPulse :
    resultOf .leaderPulse s = timedPhase s (enterPhase (signalWrite s .set) .leaderSpace tLeaderSpace) := rfl

@[simp] theorem resultOf_leaderSpace :
    resultOf .leaderSpace s = timedPhase s (enterPhase (signalWrite s .cleared) .bitPulse tBitPulse) := rfl

@[simp] theorem resultOf_bitPulse :
    resultOf .bitPulse s =
      timedPhase s (enterPhase (signalWrite (shiftOut s) .set) .bitSpace (spaceTicks (nextBit s))) := rfl

@[simp] theorem resultOf_bitSpace :
    resultOf .bitSpace s = timedPhase s (if outputRegisterEmpty s then
      enterPhase (signalWrite s .cleared) .stopBit tStop
      else enterPhase (signalWrite s .cleared) .bitPulse tBitPulse) := rfl

@[simp] theorem resultOf_stopBit :
    resultOf .stopBit s = timedPhase s
      (enterPhase (setGapLoops (signalWrite s .set) gapOuterIterations gapInnerIterations) .gap gapBody) := rfl

@[simp] theorem resultOf_gap :
    resultOf .gap s = timedPhase s
      (if innerLoopCounting s then reloadGapBody (setGapLoops s s.gapOuter (s.gapInner - 1#5))
      else if outerLoopCounting s then reloadGapBody (setGapLoops s (s.gapOuter - 1#2) gapInnerIterations)
      else queueRelease (enterPhase (setGapLoops s 0#2 0#5) .idle 0#9)) := rfl

@[simp] theorem resultOf_cgLow :
    resultOf .cgLow s = drivePin (if stepCounting s then countClock s else enterStep s .wait 0#3) .low := rfl

@[simp] theorem resultOf_cgWait :
    resultOf .cgWait s = if signalCleared s then drivePin (enterStep s .high cgHighClks) .high else s := rfl

@[simp] theorem resultOf_cgHigh :
    resultOf .cgHigh s =
      if stepCounting s then countClock s else drivePin (enterStep s .low cgLowClks) .low := rfl

end

/-! ### The sequencer alone (R188) -/

@[simp] theorem fillSlot_none (s : State) : fillSlot none s = s := rfl

/-- Filling the slot leaves the state as it is, or writes the word it was given into an empty slot. -/
theorem fillSlot_cases (f : Option CodeWord) (s : State) :
    (fillSlot f s = s ∧ (f = none ∨ s.qFull = true)) ∨
    (∃ w, f = some w ∧ s.qFull = false ∧ fillSlot f s = queueWrite s w) := by
  cases f with
  | none => exact .inl ⟨rfl, .inl rfl⟩
  | some w => cases h : s.qFull <;> simp [fillSlot, queueNotEmpty, h]

theorem fillSlot_full {s : State} (h : s.qFull = true) (f : Option CodeWord) : fillSlot f s = s := by
  obtain ⟨e, -⟩ | ⟨w, -, hf, -⟩ := fillSlot_cases f s
  · exact e
  · rw [h] at hf; cases hf

theorem fillSlot_empty {s : State} (h : s.qFull = false) (w : CodeWord) : fillSlot (some w) s = queueWrite s w := by
  simp [fillSlot, queueNotEmpty, h]

/-- A tick of the sequencer alone is the phase in force, run on the slot as it was filled. -/
theorem tickAlone_eq (f : Option CodeWord) (s : State) :
    tickAlone f s = resultOf (phaseInstr s.psPhase) (fillSlot f s) := by
  simp [tickAlone, runInstr_eq]

@[simp] theorem ticksAlone_nil (s : State) : ticksAlone [] s = s := rfl

@[simp] theorem ticksAlone_cons (f : Option CodeWord) (fs : List (Option CodeWord)) (s : State) :
    ticksAlone (f :: fs) s = ticksAlone fs (tickAlone f s) := rfl

theorem ticksAlone_append (fs gs : List (Option CodeWord)) (s : State) :
    ticksAlone (fs ++ gs) s = ticksAlone gs (ticksAlone fs s) := by
  induction fs generalizing s with
  | nil => rfl
  | cons f fs ih => exact ih (tickAlone f s)

@[simp] theorem tickInputs_length (j n : Nat) (s : State) : (tickInputs j n s).length = n := by
  induction n generalizing j s with
  | zero => rfl
  | succ n ih => simp [tickInputs, ih]

/-- The word of a base cycle is that of the SEND its port presents, accepted without reset. -/
theorem sentWord_cases (s : State) :
    sentWord s = none ∨ ∃ a c, sentWord s = some (codeWord a c) ∧ (portInputs s).rst = false ∧
      hostInstr s = some (.send a c) := by
  unfold sentWord
  cases (portInputs s).rst with
  | true => exact .inl rfl
  | false =>
    cases h : hostInstr s with
    | none => exact .inl rfl
    | some i => cases i <;> simp

end Sys2Proof.Machine
end

