-- ==== Sys2Proof/Laws/Frame.lean ====
section
/-!
SUPPORT. What the parts of a base cycle leave alone (spec/10_state.md R20's owners), and how inputs, platform and
dividers go through a run.
-/

namespace Sys2Proof.Machine

variable (s : State)

/-! The CarrierGenerator's instructions write only cgCnt, cgStep, pin. -/

@[simp] theorem stepResult_active (g : CgStep) : (resultOf (stepInstr g) s).active = s.active := by
  cases g <;> simp only [stepInstr, resultOf_cgLow, resultOf_cgWait, resultOf_cgHigh] <;> split <;> simp
@[simp] theorem stepResult_cfgErr (g : CgStep) : (resultOf (stepInstr g) s).cfgErr = s.cfgErr := by
  cases g <;> simp only [stepInstr, resultOf_cgLow, resultOf_cgWait, resultOf_cgHigh] <;> split <;> simp
@[simp] theorem stepResult_qFull (g : CgStep) : (resultOf (stepInstr g) s).qFull = s.qFull := by
  cases g <;> simp only [stepInstr, resultOf_cgLow, resultOf_cgWait, resultOf_cgHigh] <;> split <;> simp
@[simp] theorem stepResult_sig (g : CgStep) : (resultOf (stepInstr g) s).sig = s.sig := by
  cases g <;> simp only [stepInstr, resultOf_cgLow, resultOf_cgWait, resultOf_cgHigh] <;> split <;> simp
@[simp] theorem stepResult_qWord (g : CgStep) : (resultOf (stepInstr g) s).qWord = s.qWord := by
  cases g <;> simp only [stepInstr, resultOf_cgLow, resultOf_cgWait, resultOf_cgHigh] <;> split <;> simp
@[simp] theorem stepResult_osr (g : CgStep) : (resultOf (stepInstr g) s).osr = s.osr := by
  cases g <;> simp only [stepInstr, resultOf_cgLow, resultOf_cgWait, resultOf_cgHigh] <;> split <;> simp
@[simp] theorem stepResult_bitsLeft (g : CgStep) : (resultOf (stepInstr g) s).bitsLeft = s.bitsLeft := by
  cases g <;> simp only [stepInstr, resultOf_cgLow, resultOf_cgWait, resultOf_cgHigh] <;> split <;> simp
@[simp] theorem stepResult_curBit (g : CgStep) : (resultOf (stepInstr g) s).curBit = s.curBit := by
  cases g <;> simp only [stepInstr, resultOf_cgLow, resultOf_cgWait, resultOf_cgHigh] <;> split <;> simp
@[simp] theorem stepResult_psCnt (g : CgStep) : (resultOf (stepInstr g) s).psCnt = s.psCnt := by
  cases g <;> simp only [stepInstr, resultOf_cgLow, resultOf_cgWait, resultOf_cgHigh] <;> split <;> simp
@[simp] theorem stepResult_gapOuter (g : CgStep) : (resultOf (stepInstr g) s).gapOuter = s.gapOuter := by
  cases g <;> simp only [stepInstr, resultOf_cgLow, resultOf_cgWait, resultOf_cgHigh] <;> split <;> simp
@[simp] theorem stepResult_gapInner (g : CgStep) : (resultOf (stepInstr g) s).gapInner = s.gapInner := by
  cases g <;> simp only [stepInstr, resultOf_cgLow, resultOf_cgWait, resultOf_cgHigh] <;> split <;> simp
@[simp] theorem stepResult_psPhase (g : CgStep) : (resultOf (stepInstr g) s).psPhase = s.psPhase := by
  cases g <;> simp only [stepInstr, resultOf_cgLow, resultOf_cgWait, resultOf_cgHigh] <;> split <;> simp
@[simp] theorem stepResult_carDiv (g : CgStep) : (resultOf (stepInstr g) s).carDiv = s.carDiv := by
  cases g <;> simp only [stepInstr, resultOf_cgLow, resultOf_cgWait, resultOf_cgHigh] <;> split <;> simp
@[simp] theorem stepResult_tickDiv (g : CgStep) : (resultOf (stepInstr g) s).tickDiv = s.tickDiv := by
  cases g <;> simp only [stepInstr, resultOf_cgLow, resultOf_cgWait, resultOf_cgHigh] <;> split <;> simp
@[simp] theorem stepResult_params (g : CgStep) : (resultOf (stepInstr g) s).params = s.params := by
  cases g <;> simp only [stepInstr, resultOf_cgLow, resultOf_cgWait, resultOf_cgHigh] <;> split <;> simp
@[simp] theorem stepResult_inputs (g : CgStep) : (resultOf (stepInstr g) s).inputs = s.inputs := by
  cases g <;> simp only [stepInstr, resultOf_cgLow, resultOf_cgWait, resultOf_cgHigh] <;> split <;> simp

/-! The ProtocolSequencer's instructions write only bitsLeft, curBit, gapInner, gapOuter, osr, psCnt, psPhase, qFull, sig. -/

@[simp] theorem phaseResult_active (p : Phase) : (resultOf (phaseInstr p) s).active = s.active := by
  cases p <;> simp only [phaseInstr, resultOf_idle, resultOf_leaderPulse, resultOf_leaderSpace, resultOf_bitPulse,
    resultOf_bitSpace, resultOf_stopBit, resultOf_gap, timedPhase] <;> repeat' split
  all_goals simp
@[simp] theorem phaseResult_cfgErr (p : Phase) : (resultOf (phaseInstr p) s).cfgErr = s.cfgErr := by
  cases p <;> simp only [phaseInstr, resultOf_idle, resultOf_leaderPulse, resultOf_leaderSpace, resultOf_bitPulse,
    resultOf_bitSpace, resultOf_stopBit, resultOf_gap, timedPhase] <;> repeat' split
  all_goals simp
@[simp] theorem phaseResult_qWord (p : Phase) : (resultOf (phaseInstr p) s).qWord = s.qWord := by
  cases p <;> simp only [phaseInstr, resultOf_idle, resultOf_leaderPulse, resultOf_leaderSpace, resultOf_bitPulse,
    resultOf_bitSpace, resultOf_stopBit, resultOf_gap, timedPhase] <;> repeat' split
  all_goals simp
@[simp] theorem phaseResult_cgCnt (p : Phase) : (resultOf (phaseInstr p) s).cgCnt = s.cgCnt := by
  cases p <;> simp only [phaseInstr, resultOf_idle, resultOf_leaderPulse, resultOf_leaderSpace, resultOf_bitPulse,
    resultOf_bitSpace, resultOf_stopBit, resultOf_gap, timedPhase] <;> repeat' split
  all_goals simp
@[simp] theorem phaseResult_cgStep (p : Phase) : (resultOf (phaseInstr p) s).cgStep = s.cgStep := by
  cases p <;> simp only [phaseInstr, resultOf_idle, resultOf_leaderPulse, resultOf_leaderSpace, resultOf_bitPulse,
    resultOf_bitSpace, resultOf_stopBit, resultOf_gap, timedPhase] <;> repeat' split
  all_goals simp
@[simp] theorem phaseResult_pin (p : Phase) : (resultOf (phaseInstr p) s).pin = s.pin := by
  cases p <;> simp only [phaseInstr, resultOf_idle, resultOf_leaderPulse, resultOf_leaderSpace, resultOf_bitPulse,
    resultOf_bitSpace, resultOf_stopBit, resultOf_gap, timedPhase] <;> repeat' split
  all_goals simp
@[simp] theorem phaseResult_carDiv (p : Phase) : (resultOf (phaseInstr p) s).carDiv = s.carDiv := by
  cases p <;> simp only [phaseInstr, resultOf_idle, resultOf_leaderPulse, resultOf_leaderSpace, resultOf_bitPulse,
    resultOf_bitSpace, resultOf_stopBit, resultOf_gap, timedPhase] <;> repeat' split
  all_goals simp
@[simp] theorem phaseResult_tickDiv (p : Phase) : (resultOf (phaseInstr p) s).tickDiv = s.tickDiv := by
  cases p <;> simp only [phaseInstr, resultOf_idle, resultOf_leaderPulse, resultOf_leaderSpace, resultOf_bitPulse,
    resultOf_bitSpace, resultOf_stopBit, resultOf_gap, timedPhase] <;> repeat' split
  all_goals simp
@[simp] theorem phaseResult_params (p : Phase) : (resultOf (phaseInstr p) s).params = s.params := by
  cases p <;> simp only [phaseInstr, resultOf_idle, resultOf_leaderPulse, resultOf_leaderSpace, resultOf_bitPulse,
    resultOf_bitSpace, resultOf_stopBit, resultOf_gap, timedPhase] <;> repeat' split
  all_goals simp
@[simp] theorem phaseResult_inputs (p : Phase) : (resultOf (phaseInstr p) s).inputs = s.inputs := by
  cases p <;> simp only [phaseInstr, resultOf_idle, resultOf_leaderPulse, resultOf_leaderSpace, resultOf_bitPulse,
    resultOf_bitSpace, resultOf_stopBit, resultOf_gap, timedPhase] <;> repeat' split
  all_goals simp

/-! The host's operations write neither the Signal nor the pin (R25, R160, R164), nor the platform, the dividers or the inputs. -/

@[simp] theorem hostResult_sig (io : Inputs) : (resultOf (portInstr io) s).sig = s.sig := by
  unfold portInstr
  split <;> simp only [resultOf_activate, resultOf_deactivate, resultOf_send, resultOf_reserved] <;> repeat' split
  all_goals simp
@[simp] theorem hostResult_pin (io : Inputs) : (resultOf (portInstr io) s).pin = s.pin := by
  unfold portInstr
  split <;> simp only [resultOf_activate, resultOf_deactivate, resultOf_send, resultOf_reserved] <;> repeat' split
  all_goals simp
@[simp] theorem hostResult_carDiv (io : Inputs) : (resultOf (portInstr io) s).carDiv = s.carDiv := by
  unfold portInstr
  split <;> simp only [resultOf_activate, resultOf_deactivate, resultOf_send, resultOf_reserved] <;> repeat' split
  all_goals simp
@[simp] theorem hostResult_tickDiv (io : Inputs) : (resultOf (portInstr io) s).tickDiv = s.tickDiv := by
  unfold portInstr
  split <;> simp only [resultOf_activate, resultOf_deactivate, resultOf_send, resultOf_reserved] <;> repeat' split
  all_goals simp
@[simp] theorem hostResult_params (io : Inputs) : (resultOf (portInstr io) s).params = s.params := by
  unfold portInstr
  split <;> simp only [resultOf_activate, resultOf_deactivate, resultOf_send, resultOf_reserved] <;> repeat' split
  all_goals simp
@[simp] theorem hostResult_inputs (io : Inputs) : (resultOf (portInstr io) s).inputs = s.inputs := by
  unfold portInstr
  split <;> simp only [resultOf_activate, resultOf_deactivate, resultOf_send, resultOf_reserved] <;> repeat' split
  all_goals simp

/-! ### Through a base cycle and through a run -/

theorem partResult_of_if (b : Bool) (i : Instr) :
    partResult (if b then some i else none) s = if b then resultOf i s else s := by
  cases b <;> rfl

@[simp] theorem advance_inputs : (advance s).inputs = s.inputs.tail := by
  cases h : (portInputs s).rst with
  | true => simp [advance_reset h]
  | false =>
    rw [advance_parts h, hostInstr_eq, sequencerInstr_eq, carrierInstr_eq]
    simp only [partResult_of_if, endCycle_inputs]
    congr 1
    repeat' split
    all_goals simp

@[simp] theorem advance_params : (advance s).params = s.params := by
  cases h : (portInputs s).rst with
  | true => simp [advance_reset h]
  | false =>
    rw [advance_parts h, hostInstr_eq, sequencerInstr_eq, carrierInstr_eq]
    simp only [partResult_of_if, endCycle_params]
    repeat' split
    all_goals simp

theorem advance_carDiv (h : (portInputs s).rst = false) : (advance s).carDiv = nextCarDiv s.carDiv := by
  rw [advance_parts h, hostInstr_eq, sequencerInstr_eq, carrierInstr_eq]
  simp only [partResult_of_if, endCycle_carDiv]
  congr 1
  repeat' split
  all_goals simp

theorem advance_tickDiv (h : (portInputs s).rst = false) : (advance s).tickDiv = nextTickDiv s.tickDiv := by
  rw [advance_parts h, hostInstr_eq, sequencerInstr_eq, carrierInstr_eq]
  simp only [partResult_of_if, endCycle_tickDiv]
  congr 1
  repeat' split
  all_goals simp

@[simp] theorem after_zero : after 0 s = s := rfl

theorem after_succ (n : Nat) : after (n + 1) s = after n (advance s) := rfl

theorem after_add (m n : Nat) : after (m + n) s = after n (after m s) := by
  induction m generalizing s with
  | zero => simp
  | succ m ih => rw [Nat.succ_add, after_succ, after_succ, ih]

/-- The last base cycle of a run, split off. -/
theorem after_succ' (n : Nat) : after (n + 1) s = advance (after n s) := after_add s n 1

@[simp] theorem after_inputs (n : Nat) : (after n s).inputs = s.inputs.drop n := by
  induction n generalizing s with
  | zero => rfl
  | succ n ih => rw [after_succ, ih, advance_inputs, List.drop_tail]

@[simp] theorem after_params (n : Nat) : (after n s).params = s.params := by
  induction n generalizing s with
  | zero => rfl
  | succ n ih => rw [after_succ, ih, advance_params]

end Sys2Proof.Machine
end

