-- ==== Sys2Proof/Laws/PerInstr.lean ====
section
/-!
SUPPORT. Statements made for each instruction: that its encoding is a word of its own format.
-/

namespace Sys2Proof.Laws.EncodeWellFormed

/-- The word the encoder writes is in the instruction's own format and well-formed in it. -/
def Statement (i : Instr) : Prop := (encode i).format = i.format ∧ (encode i).wf = true

theorem activate : Statement .activate := ⟨rfl, rfl⟩
theorem deactivate : Statement .deactivate := ⟨rfl, rfl⟩
theorem send (address command : Field) : Statement (.send address command) :=
  ⟨rfl, decide_eq_true (commandWord 2#2 command address).isLt⟩
theorem reserved : Statement .reserved := ⟨rfl, rfl⟩
theorem idle : Statement .idle := ⟨rfl, rfl⟩
theorem leaderPulse : Statement .leaderPulse := ⟨rfl, rfl⟩
theorem leaderSpace : Statement .leaderSpace := ⟨rfl, rfl⟩
theorem bitPulse : Statement .bitPulse := ⟨rfl, rfl⟩
theorem bitSpace : Statement .bitSpace := ⟨rfl, rfl⟩
theorem stopBit : Statement .stopBit := ⟨rfl, rfl⟩
theorem gap : Statement .gap := ⟨rfl, rfl⟩
theorem cgLow : Statement .cgLow := ⟨rfl, rfl⟩
theorem cgWait : Statement .cgWait := ⟨rfl, rfl⟩
theorem cgHigh : Statement .cgHigh := ⟨rfl, rfl⟩

end Sys2Proof.Laws.EncodeWellFormed
end

