-- ==== Sys2Proof/Tests/Slice0.lean ====
section
/-!
SUPPORT. The model's own tests: the smoke of WellFormed, the decoding of words written out from the spec's
encodings, one-step vectors of spec/95_test_vectors.md (each named with its number there), and for every statement
with hypotheses a state and operands that meet all of them together.
-/

namespace Sys2Proof.Tests

open Sys2Proof Sys2Proof.Machine

/-! ### WellFormed: what each check refuses -/

theorem test_reserved_is_ill_formed : Instr.wf .reserved = false := by decide
theorem test_phase_code_7_is_ill_formed : EncodedWord.wf ⟨.p, 7⟩ = false := by decide
theorem test_step_code_3_is_ill_formed : EncodedWord.wf ⟨.g, 3⟩ = false := by decide
theorem test_wide_command_is_ill_formed : EncodedWord.wf ⟨.h, 0x400000000⟩ = false := by decide
theorem test_negative_operand_is_ill_formed : Call.wf (.send (-1) 0) = false := by decide
theorem test_wide_operand_is_ill_formed : Call.wf (.send 0 65536) = false := by decide
theorem test_wide_call_is_refused : Call.toInstr? (.send 0 65536) = none := by decide
theorem test_call_is_taken : Call.toInstr? (.send 0x41 0x654C) = some (.send 0x41#16 0x654C#16) := by decide
theorem test_phase_line_is_ill_formed : Line.wf ⟨0, .idle⟩ = false := by decide
theorem test_reserved_script_is_ill_formed : scriptWf [⟨0, .activate⟩, ⟨5, .reserved⟩] = false := by decide
theorem test_falling_times_are_ill_formed : scriptWf [⟨5, .activate⟩, ⟨0, .send 4#16 8#16⟩] = false := by decide
theorem test_program_1_is_well_formed : scriptWf [⟨0, .activate⟩, ⟨1, .send 4#16 8#16⟩] = true := by decide

/-! ### Decoding, on words written out bit by bit from the opcode table's encoding column -/

theorem test_decode_activate : decode ⟨.h, 0b00_0001001000110100_0101011001111000⟩ = .ok .activate := by decide
theorem test_decode_deactivate : decode ⟨.h, 0b01_0000000000000000_0000000000000000⟩ = .ok .deactivate := by decide
theorem test_decode_send :
    decode ⟨.h, 0b10_0110010101001100_0000000001000001⟩ = .ok (.send 0x0041#16 0x654C#16) := by decide
theorem test_decode_reserved : decode ⟨.h, 0b11_0101011001111000_0001001000110100⟩ = .ok .reserved := by decide
theorem test_decode_idle : decode ⟨.p, 0b000⟩ = .ok .idle := by decide
theorem test_decode_leader_pulse : decode ⟨.p, 0b001⟩ = .ok .leaderPulse := by decide
theorem test_decode_leader_space : decode ⟨.p, 0b010⟩ = .ok .leaderSpace := by decide
theorem test_decode_bit_pulse : decode ⟨.p, 0b011⟩ = .ok .bitPulse := by decide
theorem test_decode_bit_space : decode ⟨.p, 0b100⟩ = .ok .bitSpace := by decide
theorem test_decode_stop_bit : decode ⟨.p, 0b101⟩ = .ok .stopBit := by decide
theorem test_decode_gap : decode ⟨.p, 0b110⟩ = .ok .gap := by decide
theorem test_decode_phase_7 : decode ⟨.p, 0b111⟩ = .error (.unlistedPhase 7#3) := by decide
theorem test_decode_cg_low : decode ⟨.g, 0b00⟩ = .ok .cgLow := by decide
theorem test_decode_cg_wait : decode ⟨.g, 0b01⟩ = .ok .cgWait := by decide
theorem test_decode_cg_high : decode ⟨.g, 0b10⟩ = .ok .cgHigh := by decide
theorem test_decode_step_3 : decode ⟨.g, 0b11⟩ = .error (.unlistedStep 3#2) := by decide
theorem test_table_word_send : decodeTableWord 40 0x200080004 = some (.send 4#16 8#16) := by decide
theorem test_table_word_step : decodeTableWord 2 0b10 = some .cgHigh := by decide

/-! ### States to test on -/

/-- The platform of the spec's vectors: `CAR_PHASE` and `TICK_PHASE` 0, `CFG_OK` true. -/
def plat : Params := { carPhase := 0, tickPhase := 0, cfgOk := true }

/-- A platform that could not achieve the clock rates. -/
def badPlat : Params := { plat with cfgOk := false }

/-- After reset. -/
def quiet : State := State.resetWith plat

/-- Active, in IDLE, parked: a clean end. -/
def parked : State := { quiet with active := true, cgStep := .wait, cgCnt := 0#3 }

/-- Active, in IDLE, with a word in the slot. -/
def loaded : State := { parked with qFull := true, qWord := 0xF708FB04#32 }

/-- The first base cycle of the frame for 0xF708FB04, the engine parked. -/
def frameStart : State :=
  { loaded with
    psPhase := .leaderPulse, psCnt := 450#9, osr := 0xF708FB04#32, bitsLeft := 32#6, sig := .cleared, tickDiv := 1#6 }

/-- The last tick of a leader pulse. -/
def leaderEnd : State := { frameStart with psCnt := 1#9, tickDiv := 0#6, carDiv := 1#3 }

/-- The last tick of the pulse of bit 2 of 0xF708FB04 (S8). -/
def pulseEnd : State :=
  { leaderEnd with psPhase := .bitPulse, osr := 0x3DC23EC1#32, bitsLeft := 30#6 }

/-- The last tick of the space of bit 31 (S13). -/
def lastSpaceEnd : State :=
  { leaderEnd with psPhase := .bitSpace, osr := 0#32, bitsLeft := 0#6, curBit := true, sig := .set }

/-- The last tick of the Gap (S17). -/
def gapEnd : State :=
  { lastSpaceEnd with psPhase := .gap, gapInner := 1#5, gapOuter := 1#2 }

/-- Left by a DEACTIVATE in the middle of a pulse: both hazards (H8). -/
def hazard : State := { quiet with sig := .cleared, pin := .high }

/-- A waiting engine with the Signal `CLEARED`: the hazard of R231 after the next ACTIVATE. -/
def running : State := { parked with sig := .cleared }

/-- A base cycle that presents a command. -/
def cmd (op : OpCode) (address command : Field) : Inputs :=
  { rst := false, valid := true, op := op, address := address, command := command }

/-- An idle block to which a SEND is presented in the base cycle before a tick. -/
def sentBeforeTick : State := { parked with tickDiv := 37#6, inputs := [cmd 2#2 4#16 8#16] }

/-- The next state an outcome answers. -/
def ran (o : Host.Outcome State Fault Refusal) : Option State :=
  match o with
  | .next t => some t
  | .fault _ => none
  | .refused _ => none

theorem quiet_inv : Inv quiet :=
  ⟨by decide, by decide, by decide, by decide, by decide, by decide, by decide, by decide, by decide, by decide,
    by decide, by decide⟩
theorem parked_inv : Inv parked :=
  ⟨by decide, by decide, by decide, by decide, by decide, by decide, by decide, by decide, by decide, by decide,
    by decide, by decide⟩
theorem loaded_inv : Inv loaded :=
  ⟨by decide, by decide, by decide, by decide, by decide, by decide, by decide, by decide, by decide, by decide,
    by decide, by decide⟩
theorem frameStart_inv : Inv frameStart :=
  ⟨by decide, by decide, by decide, by decide, by decide, by decide, by decide, by decide, by decide, by decide,
    by decide, by decide⟩
theorem sentBeforeTick_inv : Inv sentBeforeTick :=
  ⟨by decide, by decide, by decide, by decide, by decide, by decide, by decide, by decide, by decide, by decide,
    by decide, by decide⟩
theorem pulseEnd_inv : Inv pulseEnd :=
  ⟨by decide, by decide, by decide, by decide, by decide, by decide, by decide, by decide, by decide, by decide,
    by decide, by decide⟩
theorem gapEnd_inv : Inv gapEnd :=
  ⟨by decide, by decide, by decide, by decide, by decide, by decide, by decide, by decide, by decide, by decide,
    by decide, by decide⟩
theorem hazard_inv : Inv hazard :=
  ⟨by decide, by decide, by decide, by decide, by decide, by decide, by decide, by decide, by decide, by decide,
    by decide, by decide⟩
theorem running_inv : Inv running :=
  ⟨by decide, by decide, by decide, by decide, by decide, by decide, by decide, by decide, by decide, by decide,
    by decide, by decide⟩

/-! ### One-step vectors of the spec -/

theorem test_field16_complement : field16 0x0012#16 = 0xED12#16 := by decide
theorem test_field16_verbatim : field16 0xED12#16 = 0xED12#16 := by decide
theorem test_codeWord_mixed : codeWord 0x41#16 0x654C#16 = 0x654CBE41#32 := by decide
theorem test_H1_activate : ran (exec .activate quiet) = some { quiet with active := true } := by decide
theorem test_H2_config_error :
    ran (exec .activate (State.resetWith badPlat)) = some { State.resetWith badPlat with cfgErr := true } := by decide
theorem test_H4_send :
    ran (exec (.send 0x04#16 0x08#16) quiet) = some { quiet with qFull := true, qWord := 0xF708FB04#32 } := by decide
theorem test_H6_send_at_a_tick :
    (advance { parked with inputs := [cmd 2#2 0x01#16 0x02#16] }).psPhase = .idle ∧
    (advance { parked with inputs := [cmd 2#2 0x01#16 0x02#16] }).qWord = 0xFD02FE01#32 := by decide
theorem test_H8_deactivate_leaves_pin_and_signal :
    ran (exec .deactivate { frameStart with cgStep := .high, cgCnt := 3#3, pin := .high }) =
      some { hazard with qWord := 0xF708FB04#32, tickDiv := 1#6 } := by decide
theorem test_H11_deactivate_suppresses_the_tick :
    (advance { leaderEnd with inputs := [cmd 1#2 0#16 0#16] }).sig = .cleared := by decide
theorem test_H13_reserved : ran (exec .reserved frameStart) = some frameStart := by decide
theorem test_S1_idle_waits : ran (exec .idle parked) = some parked := by decide
theorem test_S2_idle_takes : ran (exec .idle loaded) = some { frameStart with tickDiv := 0#6 } := by decide
theorem test_S3_leader_counts : ran (exec .leaderPulse frameStart) = some { frameStart with psCnt := 449#9 } := by decide
theorem test_S5_leader_ends : ran (exec .leaderPulse leaderEnd) =
    some { leaderEnd with psPhase := .leaderSpace, psCnt := 225#9, sig := .set } := by decide
theorem test_S6_leader_space_ends :
    ran (exec .leaderSpace { leaderEnd with psPhase := .leaderSpace, sig := .set }) =
      some { leaderEnd with psPhase := .bitPulse, psCnt := 28#9 } := by decide
theorem test_S8_bit_pulse_of_a_1 : ran (exec .bitPulse pulseEnd) =
    some { pulseEnd with
      psPhase := .bitSpace, psCnt := 84#9, osr := 0x1EE11F60#32, bitsLeft := 29#6, curBit := true, sig := .set } := by
  decide
theorem test_S10_bit_pulse_of_a_0 : ran (exec .bitPulse { pulseEnd with osr := 0#32, bitsLeft := 7#6 }) =
    some { pulseEnd with psPhase := .bitSpace, psCnt := 28#9, osr := 0#32, bitsLeft := 6#6, sig := .set } := by decide
theorem test_S12_bit_space_loops : ran (exec .bitSpace { lastSpaceEnd with bitsLeft := 31#6 }) =
    some { lastSpaceEnd with bitsLeft := 31#6, psPhase := .bitPulse, psCnt := 28#9, sig := .cleared } := by decide
theorem test_S13_bit_space_ends : ran (exec .bitSpace lastSpaceEnd) =
    some { lastSpaceEnd with psPhase := .stopBit, psCnt := 28#9, sig := .cleared } := by decide
theorem test_S14_stop_bit_ends :
    ran (exec .stopBit { lastSpaceEnd with psPhase := .stopBit, sig := .cleared }) =
      some { lastSpaceEnd with psPhase := .gap, psCnt := 140#9, gapOuter := 2#2, gapInner := 25#5 } := by decide
theorem test_S16_gap_outer_loop : ran (exec .gap { gapEnd with gapOuter := 2#2 }) =
    some { gapEnd with psCnt := 140#9, gapInner := 25#5, gapOuter := 1#2 } := by decide
theorem test_S17_gap_ends : ran (exec .gap gapEnd) =
    some { gapEnd with psPhase := .idle, psCnt := 0#9, gapInner := 0#5, gapOuter := 0#2, qFull := false } := by decide
theorem test_G2_low_drives_the_pin : ran (exec .cgLow hazard) =
    some { hazard with cgCnt := 3#3, pin := .low } := by decide
theorem test_G3_low_ends : ran (exec .cgLow { quiet with cgCnt := 1#3 }) =
    some { quiet with cgStep := .wait, cgCnt := 0#3 } := by decide
theorem test_G5_wait_goes : ran (exec .cgWait running) =
    some { running with cgStep := .high, cgCnt := 5#3, pin := .high } := by decide
theorem test_G6_wait_sees_the_old_signal : (advance loaded).sig = .cleared ∧ (advance loaded).cgStep = .wait := by decide
theorem test_G7_high_counts :
    ran (exec .cgHigh { parked with cgStep := .high, cgCnt := 5#3, pin := .high }) =
      some { parked with cgStep := .high, cgCnt := 4#3, pin := .high } := by decide
theorem test_G8_high_ends :
    ran (exec .cgHigh { parked with cgStep := .high, cgCnt := 1#3, pin := .high }) =
      some { parked with cgStep := .low, cgCnt := 4#3 } := by decide
theorem test_Z2_reset_leaves_no_hazard :
    advance { hazard with inputs := [{ quietInputs with rst := true, valid := true }] } = quiet := by decide
theorem test_reset_runs_a_placed_phase :
    (advance (State.reset.withFetchWord 8 0b001)).psPhase = .leaderSpace := by decide

/-! ### Witnesses: states and operands that meet each statement's hypotheses -/

theorem witness_EncodeInvertsDecode :
    decode ⟨.h, 0x2654C0041⟩ = .ok (.send 0x41#16 0x654C#16) ∧
    Instr.send 0x41#16 0x654C#16 ≠ .activate ∧ Instr.send 0x41#16 0x654C#16 ≠ .deactivate ∧
    Instr.send 0x41#16 0x654C#16 ≠ .reserved := by decide
theorem witness_FieldRule : (0x00FF#16 : Field) ≤ 0x00FF#16 ∧ (0x00FF#16 : Field) < 0x0100#16 := by decide
theorem witness_SendFillsTheSlot :
    quiet.qFull = false ∧ (0x00FF#16 : Field) ≤ 0x00FF#16 ∧ (0x00FF#16 : Field) < 0x0100#16 := by decide
theorem witness_SendOnFullSlotIsHeld : loaded.qFull = true := by decide
theorem witness_UnacceptedCommandHasNoEffect :
    ({ loaded with inputs := [cmd 2#2 1#16 2#16] } : State).inputs = cmd 2#2 1#16 2#16 :: [] ∧
    accepted { loaded with inputs := [cmd 2#2 1#16 2#16] } = false := by decide
theorem witness_ActivateStartsTheEngines : quiet.params.cfgOk = true := by decide
theorem witness_ActivateTakesConfigError : (State.resetWith badPlat).params.cfgOk = false := by decide
theorem witness_ActivateWhileActiveChangesNothing : Inv frameStart ∧ frameStart.active = true :=
  ⟨frameStart_inv, by decide⟩
theorem witness_DeactivateBeatsTheEngines :
    ({ gapEnd with inputs := [cmd 1#2 0#16 0#16] } : State).inputs = cmd 1#2 0#16 0#16 :: [] ∧
    (cmd 1#2 0#16 0#16).rst = false ∧ (cmd 1#2 0#16 0#16).presents 1#2 := by decide
theorem witness_DeactivateWhileInactiveChangesNothing : Inv hazard ∧ hazard.active = false :=
  ⟨hazard_inv, by decide⟩
theorem witness_IdleTakesTheWord : loaded.qFull = true := by decide
theorem witness_IdleWaitsForAWord : parked.qFull = false := by decide
theorem witness_TimedPhasesCount :
    Instr.gap ∈ [Instr.leaderPulse, Instr.leaderSpace, Instr.bitPulse, Instr.bitSpace, Instr.stopBit, Instr.gap] ∧
    1#9 < ({ gapEnd with psCnt := 2#9 } : State).psCnt := by decide
theorem witness_LeaderPhasesEnd : ¬ 1#9 < leaderEnd.psCnt := by decide
theorem witness_BitPulseDrainsOneBit : ¬ 1#9 < pulseEnd.psCnt := by decide
theorem witness_BitSpaceTestsTheCount : ¬ 1#9 < lastSpaceEnd.psCnt := by decide
theorem witness_StopBitEntersTheGap : ¬ 1#9 < ({ lastSpaceEnd with psPhase := .stopBit } : State).psCnt := by decide
theorem witness_GapLoopsThenReleases :
    (¬ 1#9 < gapEnd.psCnt ∧ ¬ 1#5 < gapEnd.gapInner ∧ ¬ 1#2 < gapEnd.gapOuter) ∧
    (¬ 1#5 < ({ gapEnd with gapOuter := 2#2 } : State).gapInner ∧
      1#2 < ({ gapEnd with gapOuter := 2#2 } : State).gapOuter) ∧
    1#5 < ({ gapEnd with gapInner := 2#5 } : State).gapInner := by decide
theorem witness_CgLowDrivesLow :
    1#3 < ({ quiet with cgCnt := 2#3 } : State).cgCnt ∧ ¬ 1#3 < ({ quiet with cgCnt := 1#3 } : State).cgCnt := by decide
theorem witness_CgWaitTestsTheSignal : running.sig = .cleared ∧ parked.sig = .set := by decide
theorem witness_CgHighEndsLow :
    1#3 < ({ parked with cgStep := .high, cgCnt := 2#3 } : State).cgCnt ∧
    ¬ 1#3 < ({ parked with cgStep := .high, cgCnt := 1#3 } : State).cgCnt := by decide
/-- Base cycle 0 is a tick and a carrier clock here, and a command is accepted in it: all three parts run. -/
theorem witness_StepRunsDecodedInstructions :
    (portInputs { loaded with inputs := [cmd 0#2 0#16 0#16] }).rst = false ∧
    decode ⟨.g, (stepCode loaded.cgStep).toNat⟩ = .ok .cgWait ∧
    decode ⟨.p, (phaseCode loaded.psPhase).toNat⟩ = .ok .idle ∧
    decode ⟨.h, (portWord (portInputs { loaded with inputs := [cmd 0#2 0#16 0#16] })).toNat⟩ = .ok .activate ∧
    enginesGo { loaded with inputs := [cmd 0#2 0#16 0#16] } = true ∧ carEn loaded = true ∧ tickEn loaded = true ∧
    accepted { loaded with inputs := [cmd 0#2 0#16 0#16] } = true := by decide
theorem witness_PartsReadTheCyclesStart :
    (portInputs { parked with inputs := [cmd 2#2 4#16 8#16] }).rst = false ∧
    decode ⟨.g, (stepCode parked.cgStep).toNat⟩ = .ok .cgWait ∧
    decode ⟨.p, (phaseCode parked.psPhase).toNat⟩ = .ok .idle ∧
    decode ⟨.h, (portWord (portInputs { parked with inputs := [cmd 2#2 4#16 8#16] })).toNat⟩ =
      .ok (.send 4#16 8#16) := by decide
theorem witness_ResetBeatsEverything :
    (portInputs { frameStart with inputs := [{ quietInputs with rst := true }] }).rst = true := by decide
theorem witness_DividersFreeRun :
    dividersInRange frameStart ∧ noReset 3 { frameStart with inputs := [cmd 1#2 0#16 0#16] } := by decide
theorem witness_PlacedInstructionRuns : Instr.format .activate = .h ∧ State.reset.active = false := by decide
theorem witness_StepKeepsTheInvariant : Inv gapEnd ∧ ran (step gapEnd) = some (advance gapEnd) :=
  ⟨gapEnd_inv, by decide⟩
theorem witness_SignalHasOneWriter :
    ran (step leaderEnd) = some (advance leaderEnd) ∧ (advance leaderEnd).sig ≠ leaderEnd.sig ∧
    (portInputs leaderEnd).rst = false := by decide
theorem witness_PinMovesOnlyAtCarrierClocks :
    ran (step running) = some (advance running) ∧ (advance running).pin ≠ running.pin ∧
    (portInputs running).rst = false ∧ (advance running).pin = .high := by decide
theorem witness_PhaseTransfersAreTheTable :
    Inv gapEnd ∧ ran (step gapEnd) = some (advance gapEnd) ∧ (portInputs gapEnd).rst = false ∧
    gapEnd.active = true ∧ tickEn gapEnd = true ∧ deactNow gapEnd = false :=
  ⟨gapEnd_inv, by decide⟩
theorem witness_ConfigErrorIsFatal :
    Inv { State.resetWith badPlat with cfgErr := true, inputs := [cmd 0#2 0#16 0#16] } ∧
    ({ State.resetWith badPlat with cfgErr := true, inputs := [cmd 0#2 0#16 0#16] } : State).cfgErr = true ∧
    noReset 3 { State.resetWith badPlat with cfgErr := true, inputs := [cmd 0#2 0#16 0#16] } :=
  ⟨⟨by decide, by decide, by decide, by decide, by decide, by decide, by decide, by decide, by decide, by decide,
    by decide, by decide⟩, by decide⟩
theorem witness_CarrierNeverReachesBack :
    outsideCarrier parked = outsideCarrier { parked with cgStep := .high, cgCnt := 5#3, pin := .high, carDiv := 3#3 } ∧
    parked ≠ { parked with cgStep := .high, cgCnt := 5#3, pin := .high, carDiv := 3#3 } := by decide
theorem witness_CarrierReadsOnlyTheSignal :
    parked.sig = gapEnd.sig ∧ parked.active = gapEnd.active ∧ parked.inputs = gapEnd.inputs ∧
    parked.cgStep = gapEnd.cgStep ∧ parked.cgCnt = gapEnd.cgCnt ∧ parked.pin = gapEnd.pin ∧
    ({ parked with carDiv := 1#3 } : State).carDiv = gapEnd.carDiv ∧
    parked.params.carPhase = gapEnd.params.carPhase ∧ parked.psPhase ≠ gapEnd.psPhase := by decide
theorem witness_InactiveBlockKeepsPinAndSignal :
    Inv hazard ∧ hazard.active = false ∧ noReset 2 { hazard with inputs := [cmd 2#2 4#16 8#16] } ∧
    noCommand 0#2 2 { hazard with inputs := [cmd 2#2 4#16 8#16] } :=
  ⟨hazard_inv, by decide⟩
theorem witness_ReactivationDrivesThePinLow :
    Inv { hazard with inputs := [cmd 0#2 0#16 0#16] } ∧ hazard.active = false ∧ hazard.params.cfgOk = true ∧
    hazard.pin = .high ∧ (cmd 0#2 0#16 0#16).presents 0#2 ∧
    undisturbed 6 { hazard with inputs := [cmd 0#2 0#16 0#16] } :=
  ⟨⟨by decide, by decide, by decide, by decide, by decide, by decide, by decide, by decide, by decide, by decide,
    by decide, by decide⟩, by decide⟩
theorem witness_CutFrameIsNeverResumed :
    Inv { frameStart with inputs := [cmd 1#2 0#16 0#16, cmd 0#2 0#16 0#16] } ∧ frameStart.psPhase ≠ .idle ∧
    (cmd 1#2 0#16 0#16).presents 1#2 ∧
    noReset 41 { frameStart with inputs := [cmd 1#2 0#16 0#16, cmd 0#2 0#16 0#16] } ∧
    noCommand 2#2 41 { frameStart with inputs := [cmd 1#2 0#16 0#16, cmd 0#2 0#16 0#16] } :=
  ⟨⟨by decide, by decide, by decide, by decide, by decide, by decide, by decide, by decide, by decide, by decide,
    by decide, by decide⟩, by decide⟩
theorem witness_CleanEndIsStable : cleanEnd parked ∧ quietFor 9 { parked with inputs := [quietInputs] } := by decide
theorem witness_PulsesBeginOnTheTimeline :
    (31 : Nat) < 32 ∧ (27 : Nat) < 28 ∧ 83 < (if (0xF708FB04#32 : CodeWord).getLsbD 31 then 84 else 28) := by decide
theorem witness_IdleTakesTheWordAtTheNextTick :
    Inv loaded ∧ loaded.active = true ∧ loaded.psPhase = .idle ∧ loaded.qFull = true ∧ nextTickIn 0 loaded ∧
    undisturbed 1 loaded :=
  ⟨loaded_inv, by decide⟩
theorem witness_TimedPhaseLastsItsTicks :
    Inv gapEnd ∧ gapEnd.active = true ∧ gapEnd.psPhase ≠ .idle ∧ nextTickIn 0 gapEnd ∧
    undisturbed (0 + 38 * (phaseTicksLeft gapEnd - 1) + 1) gapEnd :=
  ⟨gapEnd_inv, by decide⟩
theorem witness_FrameFollowsTheTimeline :
    Inv frameStart ∧ frameBegins frameStart ∧ 394857 < 38 * frameTicks frameStart.qWord ∧
    undisturbed 394857 { frameStart with inputs := [cmd 2#2 1#16 2#16] } :=
  ⟨frameStart_inv, by decide, by decide, by decide⟩
theorem witness_SlotIsHeldForTheWholeFrame :
    Inv frameStart ∧ frameBegins frameStart ∧ undisturbed (38 * frameTicks frameStart.qWord) frameStart :=
  ⟨frameStart_inv, by decide, by decide⟩
/-- A SEND in the first base cycle of an idle block, one cycle before a tick: before the tick, and eight cycles into
the tick period after it, the slot is filled (H6 at its tick's edge). -/
theorem witness_TickLevelViewAgrees :
    Inv sentBeforeTick ∧ sentBeforeTick.active = true ∧ nextTickIn 1 sentBeforeTick ∧ undisturbed 1 sentBeforeTick ∧
    slotFilled 1 sentBeforeTick = some 0xF708FB04#32 ∧ undisturbed (1 + 38 * 0 + 8) sentBeforeTick ∧
    tickInputs 1 1 sentBeforeTick = [some 0xF708FB04#32] :=
  ⟨sentBeforeTick_inv, by decide⟩
theorem witness_TickLevelViewAgrees_frame :
    Inv frameStart ∧ frameBegins frameStart ∧
    (List.replicate 10390 (some 0#32 : Option CodeWord)).length < frameTicks frameStart.qWord ∧
    (List.replicate 10391 (some 0#32 : Option CodeWord)).length = frameTicks frameStart.qWord := by
  refine ⟨frameStart_inv, by decide, ?_, ?_⟩ <;> rw [List.length_replicate] <;> decide
theorem witness_EngineParksWhileTheSignalIsSet :
    Inv parked ∧ (∀ k, k ≤ 45 → (after k parked).active = true) ∧ (∀ k, k < 45 → (after k parked).sig = .set) :=
  ⟨parked_inv, by decide, by decide⟩
theorem witness_PinIsLowWhileTheSignalIsSet :
    Inv parked ∧ (∀ k, k ≤ 25 → (after k parked).active = true) ∧ (∀ k, k < 25 → (after k parked).sig = .set) :=
  ⟨parked_inv, by decide, by decide⟩
/-- The pin is high in base cycle 25 and low from 26 on: the witness reaches both of the wave's halves. -/
theorem witness_PinIsASquareWaveWhileTheSignalIsCleared :
    Inv running ∧ running.cgStep = .wait ∧ nextClockIn 0 running ∧
    (∀ k, k ≤ 27 + 1 → (after k running).active = true) ∧ (∀ k, k ≤ 27 → (after k running).sig = .cleared) ∧
    (0 + 1 ≤ 25 ∧ 25 ≤ 27 + 1 ∧ (25 - (0 + 1)) % 50 < 25 ∧ (after 25 running).pin = .high) ∧
    (0 + 1 ≤ 26 ∧ 26 ≤ 27 + 1 ∧ ¬ (26 - (0 + 1)) % 50 < 25 ∧ (after 26 running).pin = .low) :=
  ⟨running_inv, by decide⟩
/-- A pulse of 51 base cycles begins its second high interval in its last. -/
theorem witness_HighIntervalsOfAPulse :
    Inv running ∧ running.cgStep = .wait ∧ nextClockIn 0 running ∧ 0 < 51 ∧
    (∀ k, k ≤ 51 → (after k running).active = true) ∧ (∀ k, k < 51 → (after k running).sig = .cleared) ∧
    risingEdges 51 running = 2 ∧ (51 - 1 - 0) / 50 + 1 = 2 :=
  ⟨running_inv, by decide⟩
theorem witness_FrameHas1068HighIntervals :
    Inv frameStart ∧ frameBegins frameStart ∧ frameStart.cgStep ≠ .high ∧
    undisturbed (38 * frameTicks frameStart.qWord) frameStart :=
  ⟨frameStart_inv, by decide, by decide, by decide⟩
/-- The frame of section 2.7 that begins while the engine, just started, is in its low clocks. -/
theorem witness_FrameHas1068HighIntervals_low :
    Inv { frameStart with cgStep := .low, cgCnt := 1#3 } ∧
    frameBegins { frameStart with cgStep := .low, cgCnt := 1#3 } ∧
    ({ frameStart with cgStep := .low, cgCnt := 1#3 } : State).cgStep ≠ .high :=
  ⟨⟨by decide, by decide, by decide, by decide, by decide, by decide, by decide, by decide, by decide, by decide,
    by decide, by decide⟩, by decide⟩

end Sys2Proof.Tests
end

section
/-!
PROOFS. Scope: an instruction placed in the machine is the one its next step runs (spec/00_scope.md R19,
spec/20_memory.md R77, spec/30_encoding.md R92 to R94; the placing itself is notes/assumptions/9.md).

Every instruction is a command on the port, a phase or a step (`portInstr`, `phaseInstr`, `stepInstr`). The first
part says what a base cycle does in which only one of the three can run, for any state; the second says that the
placed state is in such a cycle and holds the instruction that was placed.
-/

namespace Sys2Proof.Machine

/-! ### Base cycles in which a single part of R183 can run -/

/-- A command presented without acceptance is a SEND held on a full slot, whose meaning is the identity
(R82, R167): either way the host's part gives the result of the command on the port. -/
theorem partResult_hostInstr_of_valid {s : State} (hv : (portInputs s).valid = true) :
    partResult (hostInstr s) s = resultOf (portInstr (portInputs s)) s := by
  rw [hostInstr_eq]
  cases ha : accepted s with
  | true => rfl
  | false =>
    have hheld : (portInputs s).op = 2#2 ∧ s.qFull = true := by
      simpa [accepted, cmdReady, hv] using ha
    obtain ⟨hop, hfull⟩ := hheld
    simp [portInstr, hop, hfull]

theorem hostInstr_of_not_valid {s : State} (hv : (portInputs s).valid = false) : hostInstr s = none := by
  simp [hostInstr_eq, accepted, hv]

theorem enginesGo_of_not_valid {s : State} (hv : (portInputs s).valid = false) : enginesGo s = s.active := by
  simp [enginesGo, running, deactNow, accepted, hv]

theorem enginesGo_of_inactive {s : State} (ha : s.active = false) : enginesGo s = false := by
  simp [enginesGo, running, ha]

/-- In an inactive block only the host's operation runs (R21). -/
theorem step_of_inactive {s : State} (hr : (portInputs s).rst = false) (hv : (portInputs s).valid = true)
    (ha : s.active = false) : step s = .next (endCycle (resultOf (portInstr (portInputs s)) s)) := by
  have hgo : enginesGo s = false := enginesGo_of_inactive ha
  have hseq : sequencerInstr s = none := by simp [sequencerInstr_eq, hgo]
  have hcar : carrierInstr s = none := by simp [carrierInstr_eq, hgo]
  rw [step_parts hr, hseq, hcar, partResult_none, partResult_none, partResult_hostInstr_of_valid hv]

/-- Without a command, at a tick that is no carrier clock, only the phase in force runs (R92). -/
theorem step_of_tick_only {s : State} (hr : (portInputs s).rst = false) (hv : (portInputs s).valid = false)
    (ha : s.active = true) (ht : tickEn s = true) (hc : carEn s = false) :
    step s = .next (endCycle (resultOf (phaseInstr s.psPhase) s)) := by
  have hgo : enginesGo s = true := (enginesGo_of_not_valid hv).trans ha
  have hseq : sequencerInstr s = some (phaseInstr s.psPhase) := by simp [sequencerInstr_eq, hgo, ht]
  have hcar : carrierInstr s = none := by simp [carrierInstr_eq, hc]
  rw [step_parts hr, hostInstr_of_not_valid hv, hseq, hcar, partResult_none, partResult_none, partResult_some]

/-- Without a command, at a carrier clock that is no tick, only the step in force runs (R93). -/
theorem step_of_clock_only {s : State} (hr : (portInputs s).rst = false) (hv : (portInputs s).valid = false)
    (ha : s.active = true) (ht : tickEn s = false) (hc : carEn s = true) :
    step s = .next (endCycle (resultOf (stepInstr s.cgStep) s)) := by
  have hgo : enginesGo s = true := (enginesGo_of_not_valid hv).trans ha
  have hseq : sequencerInstr s = none := by simp [sequencerInstr_eq, ht]
  have hcar : carrierInstr s = some (stepInstr s.cgStep) := by simp [carrierInstr_eq, hgo, hc]
  rw [step_parts hr, hostInstr_of_not_valid hv, hseq, hcar, partResult_none, partResult_none, partResult_some]

/-! ### The placed states are in such base cycles -/

section
variable (s : State)

/-- A divider reduced modulo 5 fits its three bits, so only the remainder is compared with the carrier phase (R41). -/
theorem carDiv_mod_toNat (d : BitVec 3) : (BitVec.ofNat 3 (d.toNat % basePerCar)).toNat = d.toNat % 5 := by
  simp only [BitVec.toNat_ofNat, basePerCar]; omega

theorem tickDiv_mod_toNat (d : BitVec 6) : (BitVec.ofNat 6 (d.toNat % basePerTick)).toNat = d.toNat % 38 := by
  simp only [BitVec.toNat_ofNat, basePerTick]; omega

theorem tickEn_placePhase (p : Phase) : tickEn (placePhase s p) = true :=
  (tickEn_iff _).2 (tickDiv_mod_toNat s.tickDiv)

theorem carEn_placePhase (p : Phase) : carEn (placePhase s p) = false := by
  have hne : s.carDiv.toNat % 5 ≠ (s.carDiv.toNat + 1) % 5 := by omega
  exact Bool.eq_false_iff.2 fun h =>
    hne ((carDiv_mod_toNat s.carDiv).symm.trans ((carEn_iff (placePhase s p)).1 h))

theorem carEn_placeStep (g : CgStep) : carEn (placeStep s g) = true :=
  (carEn_iff _).2 (carDiv_mod_toNat s.carDiv)

theorem tickEn_placeStep (g : CgStep) : tickEn (placeStep s g) = false := by
  have hne : s.tickDiv.toNat % 38 ≠ (s.tickDiv.toNat + 1) % 38 := by omega
  exact Bool.eq_false_iff.2 fun h =>
    hne ((tickDiv_mod_toNat s.tickDiv).symm.trans ((tickEn_iff (placeStep s g)).1 h))

theorem step_placePhase (p : Phase) :
    step (placePhase s p) = .next (endCycle (resultOf (phaseInstr p) (placePhase s p))) :=
  step_of_tick_only rfl rfl rfl (tickEn_placePhase s p) (carEn_placePhase s p)

theorem step_placeStep (g : CgStep) :
    step (placeStep s g) = .next (endCycle (resultOf (stepInstr g) (placeStep s g))) :=
  step_of_clock_only rfl rfl rfl (tickEn_placeStep s g) (carEn_placeStep s g)

/-- The instruction of the inputs that present a command word is the one the decoder reads from the word (R81). -/
theorem portInstr_presentWord (w : CommandWord) : portInstr (presentWord w) = decodeCommand w := rfl

theorem step_placeCommand (w : CommandWord) (ha : s.active = false) :
    step (placeCommand s w) = .next (endCycle (resultOf (decodeCommand w) (placeCommand s w))) := by
  rw [← portInstr_presentWord]
  exact step_of_inactive rfl rfl ha

/-! ### Where the encoded word of an instruction is placed -/

/-- The three kinds of instruction (R94): a host operation with its command word, a phase, or a step. -/
theorem encode_cases (i : Instr) :
    (∃ w : CommandWord, i.format = .h ∧ decodeCommand w = i ∧ (encode i).bits = w.toNat) ∨
    (∃ p, phaseInstr p = i ∧ i.format = .p ∧ encode i = ⟨.p, (phaseCode p).toNat⟩) ∨
    (∃ g, stepInstr g = i ∧ i.format = .g ∧ encode i = ⟨.g, (stepCode g).toNat⟩) := by
  cases i with
  | activate => exact .inl ⟨commandWord 0#2 0#16 0#16, rfl, rfl, rfl⟩
  | deactivate => exact .inl ⟨commandWord 1#2 0#16 0#16, rfl, rfl, rfl⟩
  | send address command =>
    exact .inl ⟨commandWord 2#2 command address, rfl, by simp [decodeCommand], rfl⟩
  | reserved => exact .inl ⟨commandWord 3#2 0#16 0#16, rfl, rfl, rfl⟩
  | idle => exact .inr (.inl ⟨.idle, rfl, rfl, rfl⟩)
  | leaderPulse => exact .inr (.inl ⟨.leaderPulse, rfl, rfl, rfl⟩)
  | leaderSpace => exact .inr (.inl ⟨.leaderSpace, rfl, rfl, rfl⟩)
  | bitPulse => exact .inr (.inl ⟨.bitPulse, rfl, rfl, rfl⟩)
  | bitSpace => exact .inr (.inl ⟨.bitSpace, rfl, rfl, rfl⟩)
  | stopBit => exact .inr (.inl ⟨.stopBit, rfl, rfl, rfl⟩)
  | gap => exact .inr (.inl ⟨.gap, rfl, rfl, rfl⟩)
  | cgLow => exact .inr (.inr ⟨.low, rfl, rfl, rfl⟩)
  | cgWait => exact .inr (.inr ⟨.wait, rfl, rfl, rfl⟩)
  | cgHigh => exact .inr (.inr ⟨.high, rfl, rfl, rfl⟩)

theorem placeInstr_decodeCommand (v : CommandWord) (w : Nat) :
    placeInstr s (decodeCommand v) w = placeCommand s (BitVec.ofNat 34 w) := by
  unfold decodeCommand
  split <;> rfl

theorem placeInstr_phaseInstr (p : Phase) (w : Nat) : placeInstr s (phaseInstr p) w = placePhase s p := by
  cases p <;> rfl

theorem placeInstr_stepInstr (g : CgStep) (w : Nat) : placeInstr s (stepInstr g) w = placeStep s g := by
  cases g <;> rfl

theorem withFetchWord_of_decode {n w : Nat} {i : Instr} (h : decodeTableWord n w = some i) :
    s.withFetchWord n w = placeInstr s i w := by
  simp [State.withFetchWord, placeTableWord, h]

theorem withFetchWord_command (w : CommandWord) : s.withFetchWord 34 w.toNat = placeCommand s w := by
  have hdec : decodeTableWord 34 w.toNat = some (decodeCommand w) := by
    simp [decodeTableWord, tableFormat, decode, Format.width, w.isLt]
  rw [withFetchWord_of_decode s hdec, placeInstr_decodeCommand, BitVec.ofNat_toNat, BitVec.setWidth_eq]

theorem withFetchWord_phase (p : Phase) : s.withFetchWord 3 (phaseCode p).toNat = placePhase s p := by
  have hdec : decodeTableWord 3 (phaseCode p).toNat = some (phaseInstr p) := by
    simp [decodeTableWord, tableFormat]
  rw [withFetchWord_of_decode s hdec, placeInstr_phaseInstr]

theorem withFetchWord_step (g : CgStep) : s.withFetchWord 2 (stepCode g).toNat = placeStep s g := by
  have hdec : decodeTableWord 2 (stepCode g).toNat = some (stepInstr g) := by
    simp [decodeTableWord, tableFormat]
  rw [withFetchWord_of_decode s hdec, placeInstr_stepInstr]

/-- The base cycle at the state with an instruction's word placed is that instruction's effect and the end of the
cycle. -/
theorem step_withFetchWord_encode (i : Instr) (ha : i.format = .h → s.active = false) :
    step (s.withFetchWord i.format.width (encode i).bits) =
      .next (endCycle (resultOf i (s.withFetchWord i.format.width (encode i).bits))) := by
  obtain ⟨w, hf, rfl, hbits⟩ | ⟨p, rfl, hf, henc⟩ | ⟨g, rfl, hf, henc⟩ := encode_cases i
  · rw [hbits, hf, Format.width, withFetchWord_command]
    exact step_placeCommand s w (ha hf)
  · rw [henc, hf, Format.width, withFetchWord_phase]
    exact step_placePhase s p
  · rw [henc, hf, Format.width, withFetchWord_step]
    exact step_placeStep s g

end

/-- Settles O35: every meaning answers a next state, and the placed state's base cycle runs no other part. -/
theorem placedInstructionRuns : Obligations.PlacedInstructionRuns := fun i s ha =>
  ⟨_, exec_eq_resultOf i _, step_withFetchWord_encode s i ha⟩

end Sys2Proof.Machine
end

section
/-!
PROOFS. State: reset, the dividers, the pin, the invariant, and the ConfigError that only reset clears
(spec/10_state.md R37, R41 to R43, spec/60_exceptions.md R200, R207).

The invariant is kept by each part of a base cycle on its own (R183), so the whole cycle keeps it. The sequencer's
seven clauses are read as a table, `PhaseRow`, with one row for each phase; a phase then takes its own row to the row
of the phase it enters.
-/

namespace Sys2Proof.Machine

variable {s t : State}

/-! ### The inputs along a run -/

/-- What holds of the inputs of the next `n + 1` base cycles, and of a host that does nothing, holds of this cycle's
inputs and of those of the `n` cycles after it. -/
theorem forall_inputs_succ {P : Inputs → Prop} {n : Nat} (hquiet : P quietInputs)
    (h : ∀ io ∈ s.inputs.take (n + 1), P io) :
    P (portInputs s) ∧ ∀ io ∈ (advance s).inputs.take n, P io := by
  rw [advance_inputs]
  unfold portInputs
  cases hin : s.inputs with
  | nil => simpa using hquiet
  | cons io rest => simpa [hin] using h

theorem noReset_succ {n : Nat} (h : noReset (n + 1) s) :
    (portInputs s).rst = false ∧ noReset n (advance s) :=
  forall_inputs_succ (P := fun io => io.rst = false) rfl h

theorem advance_of_step (h : step s = .next t) : advance s = t := by
  simp [advance, h]

/-! ### What the three parts of a base cycle do

Each part is chosen from the state `s` at the start of the cycle and runs on the state `t` that the parts before it
give (R183). -/

theorem enginesGo_iff : enginesGo s = true ↔ s.active = true ∧ deactNow s = false := by
  simp [enginesGo, running]

/-- The carrier's part runs the step in force at a carrier clock of a block that may step, or nothing. -/
theorem carrierPart_cases (s t : State) :
    (s.active = true ∧ deactNow s = false ∧ carEn s = true ∧
      partResult (carrierInstr s) t = resultOf (stepInstr s.cgStep) t) ∨ partResult (carrierInstr s) t = t := by
  rw [carrierInstr_eq, partResult_of_if]
  split
  · next hruns =>
    obtain ⟨hgo, hclock⟩ := (Bool.and_eq_true _ _).mp hruns
    obtain ⟨ha, hd⟩ := enginesGo_iff.1 hgo
    exact .inl ⟨ha, hd, hclock, rfl⟩
  · exact .inr rfl

/-- The sequencer's part runs the phase in force at a tick of a block that may step, or nothing. -/
theorem sequencerPart_cases (s t : State) :
    (s.active = true ∧ deactNow s = false ∧ tickEn s = true ∧
      partResult (sequencerInstr s) t = resultOf (phaseInstr s.psPhase) t) ∨ partResult (sequencerInstr s) t = t := by
  rw [sequencerInstr_eq, partResult_of_if]
  split
  · next hruns =>
    obtain ⟨hgo, htick⟩ := (Bool.and_eq_true _ _).mp hruns
    obtain ⟨ha, hd⟩ := enginesGo_iff.1 hgo
    exact .inl ⟨ha, hd, htick, rfl⟩
  · exact .inr rfl

/-- The host's part runs the accepted command, or nothing. -/
theorem hostPart_cases (s t : State) :
    (accepted s = true ∧ partResult (hostInstr s) t = resultOf (portInstr (portInputs s)) t) ∨
    partResult (hostInstr s) t = t := by
  rw [hostInstr_eq, partResult_of_if]
  split
  · next hacc => exact .inl ⟨hacc, rfl⟩
  · exact .inr rfl

theorem carrierPart_active (s t : State) : (partResult (carrierInstr s) t).active = t.active := by
  obtain ⟨-, -, -, e⟩ | e := carrierPart_cases s t <;> simp [e]

theorem carrierPart_cfgErr (s t : State) : (partResult (carrierInstr s) t).cfgErr = t.cfgErr := by
  obtain ⟨-, -, -, e⟩ | e := carrierPart_cases s t <;> simp [e]

theorem carrierPart_psPhase (s t : State) : (partResult (carrierInstr s) t).psPhase = t.psPhase := by
  obtain ⟨-, -, -, e⟩ | e := carrierPart_cases s t <;> simp [e]

theorem sequencerPart_cfgErr (s t : State) : (partResult (sequencerInstr s) t).cfgErr = t.cfgErr := by
  obtain ⟨-, -, -, e⟩ | e := sequencerPart_cases s t <;> simp [e]

theorem sequencerPart_pin (s t : State) : (partResult (sequencerInstr s) t).pin = t.pin := by
  obtain ⟨-, -, -, e⟩ | e := sequencerPart_cases s t <;> simp [e]

theorem hostPart_pin (s t : State) : (partResult (hostInstr s) t).pin = t.pin := by
  obtain ⟨-, e⟩ | e := hostPart_cases s t <;> simp [e]

/-! ### Reset (R43) -/

/-- Settles O31: the reset table is `takeReset`, field for field. -/
theorem resetBeatsEverything : Obligations.ResetBeatsEverything := fun _ hr => step_reset hr

theorem resetWith_inv (p : Params) : Inv (State.resetWith p) where
  slot := by simp
  idle := by simp [idleZero]
  signal := by simp [signalOfPhase]
  gap := by simp [gapLoops]
  bits := by simp [bitsOfPhase]
  pin := by simp [pinOfStep]
  failed := by simp [failedNeverRuns]
  inactive := by simp [inactiveInitial]
  phase := by simp [phaseCount]
  step := by simp [stepCount]
  dividers := by simp [dividersInRange]
  serializer := by simp [serializerPlace]

/-- Settles O36. -/
theorem resetHasTheInvariant : Obligations.ResetHasTheInvariant :=
  ⟨resetWith_inv Config.params, resetWith_inv⟩

/-! ### The dividers (R41) -/

/-- Settles O34, by induction on the number of base cycles. -/
theorem dividersFreeRun : Obligations.DividersFreeRun := by
  intro n
  induction n with
  | zero =>
    intro s hrange _
    exact ⟨(Nat.mod_eq_of_lt hrange.1).symm, (Nat.mod_eq_of_lt hrange.2).symm⟩
  | succ n ih =>
    intro s _ hrst
    obtain ⟨hnow, hlater⟩ := noReset_succ hrst
    have hcar : (advance s).carDiv.toNat = (s.carDiv.toNat + 1) % 5 := by
      rw [advance_carDiv s hnow, nextCarDiv_toNat]
    have htick : (advance s).tickDiv.toNat = (s.tickDiv.toNat + 1) % 38 := by
      rw [advance_tickDiv s hnow, nextTickDiv_toNat]
    have hrange : dividersInRange (advance s) :=
      ⟨hcar ▸ Nat.mod_lt _ (by decide), htick ▸ Nat.mod_lt _ (by decide)⟩
    obtain ⟨hc, ht⟩ := ih (advance s) hrange hlater
    rw [after_succ, hc, ht, hcar, htick]
    omega

/-! ### The pin (R37) -/

/-- Of the parts of a base cycle without reset the CarrierGenerator's alone drives the pin. -/
theorem advance_pin (hr : (portInputs s).rst = false) : (advance s).pin = (partResult (carrierInstr s) s).pin := by
  rw [advance_parts hr, endCycle_pin, hostPart_pin, sequencerPart_pin]

/-- A carrier step that raises the pin is CG_WAIT with the Signal cleared (R112). -/
theorem stepResult_pin_high {g : CgStep} (hlow : s.pin = .low)
    (h : (resultOf (stepInstr g) s).pin = .high) : g = .wait ∧ s.sig = .cleared := by
  cases g with
  | low => simp [stepInstr] at h
  | wait =>
    rw [stepInstr, resultOf_cgWait] at h
    split at h
    · next hsig => exact ⟨rfl, (signalCleared_iff s).1 hsig⟩
    · simp [hlow] at h
  | high =>
    rw [stepInstr, resultOf_cgHigh] at h
    split at h <;> simp [hlow] at h

/-- Settles O39: a cycle that moves the pin runs a carrier step. -/
theorem pinMovesOnlyAtCarrierClocks : Obligations.PinMovesOnlyAtCarrierClocks := by
  intro s t hstep hmoved hr
  have hpin : t.pin = (partResult (carrierInstr s) s).pin := advance_of_step hstep ▸ advance_pin hr
  obtain ⟨hactive, hdeact, hclock, hruns⟩ | hrests := carrierPart_cases s s
  · rw [hruns] at hpin
    refine ⟨hactive, hclock, hdeact, fun hhigh => ?_⟩
    have hlow : s.pin = .low := by
      cases hs : s.pin with
      | low => rfl
      | high => exact absurd (hhigh.trans hs.symm) hmoved
    exact stepResult_pin_high hlow (hpin ▸ hhigh)
  · rw [hrests] at hpin
    exact absurd hpin hmoved

/-! ### The sequencer's clauses of the invariant, phase by phase -/

/-- A timed phase of a frame: the slot is held, the Signal has the phase's value, some ticks are left and no more than
the phase lasts, and the shift register holds what is left of the word in the slot. -/
structure InFrame (s : State) (v : Signal) (ticks : BitVec 9) : Prop where
  full : s.qFull = true
  sig  : s.sig = v
  pos  : 1#9 ≤ s.psCnt
  le   : s.psCnt ≤ ticks
  osr  : s.osr = s.qWord >>> (32 - s.bitsLeft.toNat)

theorem inFrame_iff {v : Signal} {n : BitVec 9} : InFrame s v n ↔
    s.qFull = true ∧ s.sig = v ∧ 1#9 ≤ s.psCnt ∧ s.psCnt ≤ n ∧ s.osr = s.qWord >>> (32 - s.bitsLeft.toNat) :=
  ⟨fun ⟨hfull, hsig, hpos, hle, hosr⟩ => ⟨hfull, hsig, hpos, hle, hosr⟩,
    fun ⟨hfull, hsig, hpos, hle, hosr⟩ => ⟨hfull, hsig, hpos, hle, hosr⟩⟩

/-- The Gap's loop counters outside the Gap. -/
abbrev loopsAtRest (s : State) : Prop := s.gapOuter = 0#2 ∧ s.gapInner = 0#5

/-- What the invariant says of the sequencer in each phase. -/
abbrev PhaseRow (s : State) : Phase → Prop
  | .idle => s.psCnt = 0#9 ∧ loopsAtRest s ∧ s.bitsLeft = 0#6 ∧ s.osr = 0#32
  | .leaderPulse => InFrame s .cleared tLeaderPulse ∧ loopsAtRest s ∧ s.bitsLeft = 32#6
  | .leaderSpace => InFrame s .set tLeaderSpace ∧ loopsAtRest s ∧ s.bitsLeft = 32#6
  | .bitPulse => InFrame s .cleared tBitPulse ∧ loopsAtRest s ∧ 1#6 ≤ s.bitsLeft ∧ s.bitsLeft ≤ 32#6
  | .bitSpace => InFrame s .set (spaceTicks s.curBit) ∧ loopsAtRest s ∧ s.bitsLeft ≤ 31#6 ∧
      s.curBit = s.qWord.getLsbD (31 - s.bitsLeft.toNat)
  | .stopBit => InFrame s .cleared tStop ∧ loopsAtRest s ∧ s.bitsLeft = 0#6
  | .gap => InFrame s .set gapBody ∧
      (1#2 ≤ s.gapOuter ∧ s.gapOuter ≤ 2#2 ∧ 1#5 ≤ s.gapInner ∧ s.gapInner ≤ 25#5) ∧ s.bitsLeft = 0#6

/-- The row of the phase in force. -/
abbrev PhaseTable (s : State) : Prop := PhaseRow s s.psPhase

/-- The table is the sequencer's seven clauses of `Inv`, sorted by phase. -/
theorem phaseTable_iff : PhaseTable s ↔ slotHeld s ∧ idleZero s ∧ signalOfPhase s ∧ gapLoops s ∧
    bitsOfPhase s ∧ phaseCount s ∧ serializerPlace s := by
  unfold PhaseTable
  cases hp : s.psPhase <;>
    simp [PhaseRow, inFrame_iff, loopsAtRest, slotHeld, idleZero, signalOfPhase, gapLoops, bitsOfPhase, phaseCount,
      serializerPlace, spaceTicks, hp] <;> tauto

theorem phaseTable_of_inv (h : Inv s) : PhaseTable s :=
  phaseTable_iff.2 ⟨h.slot, h.idle, h.signal, h.gap, h.bits, h.phase, h.serializer⟩

/-! ### A timed phase counts, or enters the next one -/

theorem countTick_inFrame {v : Signal} {n : BitVec 9} (h : InFrame s v n) (hc : 1#9 < s.psCnt) :
    InFrame (countTick s) v n :=
  { h with
    pos := by simp only [countTick_psCnt]; bv_omega
    le := BitVec.le_trans (by simp only [countTick_psCnt]; bv_omega) h.le }

/-- Of a timed phase's row counting touches the number of ticks left alone. -/
theorem countTick_phaseRow {p : Phase} (h : PhaseRow s p) (hp : p ≠ .idle) (hc : 1#9 < s.psCnt) :
    PhaseRow (countTick s) p := by
  cases p with
  | idle => exact absurd rfl hp
  | leaderPulse | leaderSpace | bitPulse | bitSpace | stopBit | gap => exact ⟨countTick_inFrame h.1 hc, h.2⟩

theorem timedPhase_phaseTable (h : PhaseTable s) (hp : s.psPhase ≠ .idle) (ht : PhaseTable t) :
    PhaseTable (timedPhase s t) := by
  obtain ⟨hc, e⟩ | ⟨-, e⟩ := timedPhase_cases s t
  · rw [e]
    exact countTick_phaseRow h hp ((phaseCounting_iff s).1 hc)
  · rwa [e]

theorem enterPhase_inFrame {v : Signal} {n : BitVec 9} (p : Phase) (hfull : s.qFull = true) (hsig : s.sig = v)
    (hn : 1#9 ≤ n) (hosr : s.osr = s.qWord >>> (32 - s.bitsLeft.toNat)) : InFrame (enterPhase s p n) v n :=
  ⟨hfull, hsig, hn, BitVec.le_refl n, hosr⟩

/-! ### The serializer's place in the word (R137) -/

theorem spaceTicks_pos (b : Bool) : 1#9 ≤ spaceTicks b := by cases b <;> decide

/-- Draining a bit moves the place one bit up the word. -/
theorem shiftOut_osr_eq (hpos : 1#6 ≤ s.bitsLeft) (hle : s.bitsLeft ≤ 32#6)
    (hosr : s.osr = s.qWord >>> (32 - s.bitsLeft.toNat)) :
    (shiftOut s).osr = (shiftOut s).qWord >>> (32 - (shiftOut s).bitsLeft.toNat) := by
  have hplace : 32 - (s.bitsLeft - 1#6).toNat = 32 - s.bitsLeft.toNat + 1 := by bv_omega
  simp only [shiftOut_osr, shiftOut_qWord, shiftOut_bitsLeft, hosr, hplace, BitVec.shiftRight_add]

/-- The bit sent next is the word's bit at the serializer's place. -/
theorem nextBit_eq_getLsbD (hpos : 1#6 ≤ s.bitsLeft) (hle : s.bitsLeft ≤ 32#6)
    (hosr : s.osr = s.qWord >>> (32 - s.bitsLeft.toNat)) :
    nextBit s = s.qWord.getLsbD (31 - (s.bitsLeft - 1#6).toNat) := by
  have hplace : 31 - (s.bitsLeft - 1#6).toNat = 32 - s.bitsLeft.toNat := by bv_omega
  rw [nextBit, hosr, hplace, BitVec.getLsbD_ushiftRight, Nat.add_zero]

/-! ### Every phase keeps the table -/

theorem idle_phaseTable (h : PhaseTable s) (hp : s.psPhase = .idle) : PhaseTable (resultOf .idle s) := by
  have hrow : PhaseRow s .idle := hp ▸ h
  obtain ⟨-, hloops, -, -⟩ := hrow
  rw [resultOf_idle]
  split
  · next hfull =>
    have hword : s.qWord = s.qWord >>> (32 - wordBits.toNat) := by simp
    exact ⟨enterPhase_inFrame .leaderPulse hfull rfl (by decide) hword, hloops, rfl⟩
  · exact h

theorem leaderPulse_phaseTable (h : PhaseTable s) (hp : s.psPhase = .leaderPulse) :
    PhaseTable (resultOf .leaderPulse s) := by
  have hrow : PhaseRow s .leaderPulse := hp ▸ h
  obtain ⟨hframe, hrest⟩ := hrow
  rw [resultOf_leaderPulse]
  exact timedPhase_phaseTable h (by simp [hp])
    ⟨enterPhase_inFrame .leaderSpace hframe.full rfl (by decide) hframe.osr, hrest⟩

theorem leaderSpace_phaseTable (h : PhaseTable s) (hp : s.psPhase = .leaderSpace) :
    PhaseTable (resultOf .leaderSpace s) := by
  have hrow : PhaseRow s .leaderSpace := hp ▸ h
  obtain ⟨hframe, hloops, hbits⟩ := hrow
  have hrange : 1#6 ≤ s.bitsLeft ∧ s.bitsLeft ≤ 32#6 := by rw [hbits]; decide
  rw [resultOf_leaderSpace]
  exact timedPhase_phaseTable h (by simp [hp])
    ⟨enterPhase_inFrame .bitPulse hframe.full rfl (by decide) hframe.osr, hloops, hrange⟩

theorem bitPulse_phaseTable (h : PhaseTable s) (hp : s.psPhase = .bitPulse) :
    PhaseTable (resultOf .bitPulse s) := by
  have hrow : PhaseRow s .bitPulse := hp ▸ h
  obtain ⟨hframe, hloops, hpos, hle⟩ := hrow
  have hleft : s.bitsLeft - 1#6 ≤ 31#6 := by bv_omega
  have hshifted := shiftOut_osr_eq hpos hle hframe.osr
  rw [resultOf_bitPulse]
  exact timedPhase_phaseTable h (by simp [hp])
    ⟨enterPhase_inFrame .bitSpace hframe.full rfl (spaceTicks_pos _) hshifted, hloops, hleft,
      nextBit_eq_getLsbD hpos hle hframe.osr⟩

theorem bitSpace_phaseTable (h : PhaseTable s) (hp : s.psPhase = .bitSpace) :
    PhaseTable (resultOf .bitSpace s) := by
  have hrow : PhaseRow s .bitSpace := hp ▸ h
  obtain ⟨hframe, hloops, hle, -⟩ := hrow
  rw [resultOf_bitSpace]
  refine timedPhase_phaseTable h (by simp [hp]) ?_
  split
  · next hempty =>
    exact ⟨enterPhase_inFrame .stopBit hframe.full rfl (by decide) hframe.osr, hloops,
      (outputRegisterEmpty_iff s).1 hempty⟩
  · next hmore =>
    have hne : s.bitsLeft ≠ 0#6 := fun e => hmore ((outputRegisterEmpty_iff s).2 e)
    have hrange : 1#6 ≤ s.bitsLeft ∧ s.bitsLeft ≤ 32#6 := by bv_omega
    exact ⟨enterPhase_inFrame .bitPulse hframe.full rfl (by decide) hframe.osr, hloops, hrange⟩

theorem stopBit_phaseTable (h : PhaseTable s) (hp : s.psPhase = .stopBit) :
    PhaseTable (resultOf .stopBit s) := by
  have hrow : PhaseRow s .stopBit := hp ▸ h
  obtain ⟨hframe, -, hbits⟩ := hrow
  have hloops : 1#2 ≤ gapOuterIterations ∧ gapOuterIterations ≤ 2#2 ∧
      1#5 ≤ gapInnerIterations ∧ gapInnerIterations ≤ 25#5 := by decide
  rw [resultOf_stopBit]
  exact timedPhase_phaseTable h (by simp [hp])
    ⟨enterPhase_inFrame .gap hframe.full rfl (by decide) hframe.osr, hloops, hbits⟩

/-- Another body of the Gap, with its loop counters in range. -/
theorem reloadGapBody_phaseTable {outer : BitVec 2} {inner : BitVec 5} (h : PhaseRow s .gap)
    (hp : s.psPhase = .gap) (hloops : 1#2 ≤ outer ∧ outer ≤ 2#2 ∧ 1#5 ≤ inner ∧ inner ≤ 25#5) :
    PhaseTable (reloadGapBody (setGapLoops s outer inner)) := by
  obtain ⟨hframe, -, hbits⟩ := h
  have hpos : 1#9 ≤ gapBody := by decide
  rw [PhaseTable, reloadGapBody_psPhase, setGapLoops_psPhase, hp]
  exact ⟨⟨hframe.full, hframe.sig, hpos, BitVec.le_refl gapBody, hframe.osr⟩, hloops, hbits⟩

theorem gap_phaseTable (h : PhaseTable s) (hp : s.psPhase = .gap) : PhaseTable (resultOf .gap s) := by
  have hrow : PhaseRow s .gap := hp ▸ h
  obtain ⟨hframe, ⟨houter, houterMax, hinner, hinnerMax⟩, hbits⟩ := id hrow
  rw [resultOf_gap]
  refine timedPhase_phaseTable h (by simp [hp]) ?_
  split
  · next hc =>
    rw [innerLoopCounting_iff] at hc
    exact reloadGapBody_phaseTable hrow hp (by bv_omega)
  · split
    · next hc =>
      rw [outerLoopCounting_iff] at hc
      exact reloadGapBody_phaseTable hrow hp (by bv_omega)
    · have hdrained : s.osr = 0#32 := by
        rw [hframe.osr, hbits]
        exact BitVec.ushiftRight_eq_zero (by decide)
      exact ⟨rfl, ⟨rfl, rfl⟩, hbits, hdrained⟩

theorem phaseResult_phaseTable (h : PhaseTable s) : PhaseTable (resultOf (phaseInstr s.psPhase) s) := by
  cases hp : s.psPhase with
  | idle => exact idle_phaseTable h hp
  | leaderPulse => exact leaderPulse_phaseTable h hp
  | leaderSpace => exact leaderSpace_phaseTable h hp
  | bitPulse => exact bitPulse_phaseTable h hp
  | bitSpace => exact bitSpace_phaseTable h hp
  | stopBit => exact stopBit_phaseTable h hp
  | gap => exact gap_phaseTable h hp

/-- The phase in force of an active block keeps the invariant: no clause outside the table reads what it writes. -/
theorem phaseResult_inv (h : Inv s) (ha : s.active = true) : Inv (resultOf (phaseInstr s.psPhase) s) := by
  obtain ⟨hslot, hidle, hsignal, hgap, hbits, hphase, hserializer⟩ :=
    phaseTable_iff.1 (phaseResult_phaseTable (phaseTable_of_inv h))
  exact {
    slot := hslot
    idle := hidle
    signal := hsignal
    gap := hgap
    bits := hbits
    pin := by simpa [pinOfStep] using h.pin
    failed := by simpa [failedNeverRuns] using h.failed
    inactive := by simp [inactiveInitial, ha]
    phase := hphase
    step := by simpa [stepCount] using h.step
    dividers := by simpa [dividersInRange] using h.dividers
    serializer := hserializer }

/-! ### Every carrier step keeps the carrier's clauses (R42(f), R32) -/

theorem cgLow_pin_stepCount (h : Inv s) (hg : s.cgStep = .low) :
    pinOfStep (resultOf .cgLow s) ∧ stepCount (resultOf .cgLow s) := by
  obtain ⟨-, hmax⟩ := h.step.1 hg
  rw [resultOf_cgLow]
  split
  · next hc =>
    rw [stepCounting_iff] at hc
    have hleft : 1#3 ≤ s.cgCnt - 1#3 ∧ s.cgCnt - 1#3 ≤ cgLowClks := by bv_omega
    simp [pinOfStep, stepCount, hg, hleft]
  · simp [pinOfStep, stepCount]

theorem cgWait_pin_stepCount (h : Inv s) :
    pinOfStep (resultOf .cgWait s) ∧ stepCount (resultOf .cgWait s) := by
  rw [resultOf_cgWait]
  split
  · simp [pinOfStep, stepCount]
  · exact ⟨h.pin, h.step⟩

theorem cgHigh_pin_stepCount (h : Inv s) (hg : s.cgStep = .high) :
    pinOfStep (resultOf .cgHigh s) ∧ stepCount (resultOf .cgHigh s) := by
  obtain ⟨-, -, hrange⟩ := h.step
  obtain ⟨-, hmax⟩ := hrange hg
  have hpin : s.pin = .high := h.pin.1 hg
  rw [resultOf_cgHigh]
  split
  · next hc =>
    rw [stepCounting_iff] at hc
    have hleft : 1#3 ≤ s.cgCnt - 1#3 ∧ s.cgCnt - 1#3 ≤ cgHighClks := by bv_omega
    simp [pinOfStep, stepCount, hg, hpin, hleft]
  · simp [pinOfStep, stepCount]

theorem stepResult_pin_stepCount (h : Inv s) :
    pinOfStep (resultOf (stepInstr s.cgStep) s) ∧ stepCount (resultOf (stepInstr s.cgStep) s) := by
  cases hg : s.cgStep with
  | low => exact cgLow_pin_stepCount h hg
  | wait => exact cgWait_pin_stepCount h
  | high => exact cgHigh_pin_stepCount h hg

/-- The carrier step in force of an active block keeps the invariant: no other clause reads what it writes. -/
theorem stepResult_inv (h : Inv s) (ha : s.active = true) : Inv (resultOf (stepInstr s.cgStep) s) := by
  obtain ⟨hpin, hcount⟩ := stepResult_pin_stepCount h
  exact {
    slot := by simpa [slotHeld] using h.slot
    idle := by simpa [idleZero] using h.idle
    signal := by simpa [signalOfPhase] using h.signal
    gap := by simpa [gapLoops] using h.gap
    bits := by simpa [bitsOfPhase] using h.bits
    pin := hpin
    failed := by simpa [failedNeverRuns] using h.failed
    inactive := by simp [inactiveInitial, ha]
    phase := by simpa [phaseCount] using h.phase
    step := hcount
    dividers := by simpa [dividersInRange] using h.dividers
    serializer := by simpa [serializerPlace] using h.serializer }

/-! ### Every host operation keeps the invariant -/

theorem startEngines_inv (h : Inv s) (hok : s.params.cfgOk = true) : Inv (startEngines s) :=
  { h with
    failed := by
      obtain ⟨-, hbad, -⟩ := h.failed
      exact ⟨fun he => absurd ((hbad he).symm.trans hok) (by decide), hbad, fun _ => hok⟩
    inactive := nofun }

theorem raiseConfigError_inv (h : Inv s) (hbad : s.params.cfgOk = false) : Inv (raiseConfigError s) :=
  { h with
    failed := by
      obtain ⟨-, -, hok⟩ := h.failed
      have hstopped : s.active = false :=
        Bool.eq_false_iff.2 fun ha => absurd ((hok ha).symm.trans hbad) (by decide)
      exact ⟨fun _ => hstopped, fun _ => hbad, hok⟩ }

/-- In IDLE no clause holds the slot. -/
theorem queueRelease_inv (h : Inv s) (hp : s.psPhase = .idle) : Inv (queueRelease s) :=
  { h with slot := fun hne => absurd hp hne }

/-- DEACTIVATE puts both engines' registers at their initial values; the pin may stay high (R42(f), R230). -/
theorem stopEngines_inv (h : Inv s) : Inv (stopEngines s) where
  slot := by simp
  idle := by simp [idleZero]
  signal := by simp [signalOfPhase]
  gap := by simp [gapLoops]
  bits := by simp [bitsOfPhase]
  pin := by simp [pinOfStep]
  failed := by
    obtain ⟨-, hbad, -⟩ := h.failed
    exact ⟨fun _ => rfl, hbad, nofun⟩
  inactive := by simp [inactiveInitial]
  phase := by simp [phaseCount]
  step := by simp [stepCount]
  dividers := h.dividers
  serializer := by simp [serializerPlace]

theorem psPhase_idle_of_empty (h : Inv s) (he : s.qFull = false) : s.psPhase = .idle :=
  by_contra fun hp => absurd ((h.slot hp).symm.trans he) (by decide)

/-- A word enters an empty slot in IDLE alone, so no shift register stands for it yet. -/
theorem queueWrite_inv (h : Inv s) (he : s.qFull = false) (w : CodeWord) : Inv (queueWrite s w) :=
  { h with
    slot := fun _ => rfl
    serializer := by simp [serializerPlace, psPhase_idle_of_empty h he] }

theorem hostResult_inv (io : Inputs) (h : Inv s) : Inv (resultOf (portInstr io) s) := by
  unfold portInstr
  split
  · rw [resultOf_activate]
    split
    · next hok => exact startEngines_inv h hok
    · next hbad => exact raiseConfigError_inv h (Bool.eq_false_iff.2 hbad)
  · rw [resultOf_deactivate]
    split
    · exact stopEngines_inv h
    · exact queueRelease_inv (stopEngines_inv h) rfl
  · rw [resultOf_send]
    split
    · exact h
    · next hempty => exact queueWrite_inv h (Bool.eq_false_iff.2 hempty) _
  · exact h

/-! ### Every base cycle keeps the invariant -/

theorem carrierPart_inv (h : Inv s) : Inv (partResult (carrierInstr s) s) := by
  obtain ⟨ha, -, -, e⟩ | e := carrierPart_cases s s
  · rw [e]
    exact stepResult_inv h ha
  · rwa [e]

/-- The phase chosen at the start of the cycle is still in force after the carrier's part. -/
theorem sequencerPart_inv (h : Inv t) (ha : t.active = s.active) (hp : t.psPhase = s.psPhase) :
    Inv (partResult (sequencerInstr s) t) := by
  obtain ⟨hactive, -, -, e⟩ | e := sequencerPart_cases s t
  · rw [e, ← hp]
    exact phaseResult_inv h (ha.trans hactive)
  · rwa [e]

theorem hostPart_inv (h : Inv t) : Inv (partResult (hostInstr s) t) := by
  obtain ⟨-, e⟩ | e := hostPart_cases s t
  · rw [e]
    exact hostResult_inv (portInputs s) h
  · rwa [e]

theorem endCycle_inv (h : Inv s) : Inv (endCycle s) :=
  { h with
    dividers := by
      simp only [dividersInRange, endCycle_carDiv, endCycle_tickDiv, nextCarDiv_toNat, nextTickDiv_toNat]
      exact ⟨Nat.mod_lt _ (by decide), Nat.mod_lt _ (by decide)⟩ }

theorem takeReset_inv (s : State) : Inv (consumeInputs (takeReset s)) :=
  { resetWith_inv s.params with }

theorem advance_inv (h : Inv s) : Inv (advance s) := by
  cases hr : (portInputs s).rst with
  | true =>
    rw [advance_reset hr]
    exact takeReset_inv s
  | false =>
    rw [advance_parts hr]
    have hcar := carrierPart_inv h
    have hseq := sequencerPart_inv hcar (carrierPart_active s s) (carrierPart_psPhase s s)
    exact endCycle_inv (hostPart_inv hseq)

theorem after_inv (n : Nat) (h : Inv s) : Inv (after n s) := by
  induction n generalizing s with
  | zero => exact h
  | succ n ih => exact ih (advance_inv h)

/-- Settles O37: the three parts of a base cycle and its end each keep the invariant, and reset restores it. -/
theorem stepKeepsTheInvariant : Obligations.StepKeepsTheInvariant :=
  fun _ _ h hstep => advance_of_step hstep ▸ advance_inv h

/-! ### ConfigError is fatal (R22, R200) -/

/-- No host operation clears `cfg_err`. -/
theorem hostResult_cfgErr (io : Inputs) (h : s.cfgErr = true) : (resultOf (portInstr io) s).cfgErr = true := by
  unfold portInstr
  split
  · rw [resultOf_activate]
    split <;> simp [h]
  · rw [resultOf_deactivate]
    split <;> simp [h]
  · rw [resultOf_send]
    split <;> simp [h]
  · exact h

theorem advance_cfgErr (hr : (portInputs s).rst = false) (h : s.cfgErr = true) : (advance s).cfgErr = true := by
  have hengines : (partResult (sequencerInstr s) (partResult (carrierInstr s) s)).cfgErr = true := by
    rw [sequencerPart_cfgErr, carrierPart_cfgErr, h]
  rw [advance_parts hr, endCycle_cfgErr]
  obtain ⟨-, e⟩ | e := hostPart_cases s (partResult (sequencerInstr s) (partResult (carrierInstr s) s))
  · rw [e]
    exact hostResult_cfgErr (portInputs s) hengines
  · rwa [e]

theorem after_cfgErr (n : Nat) (hr : noReset n s) (h : s.cfgErr = true) : (after n s).cfgErr = true := by
  induction n generalizing s with
  | zero => exact h
  | succ n ih =>
    obtain ⟨hnow, hlater⟩ := noReset_succ hr
    exact ih hlater (advance_cfgErr hnow h)

/-- Settles O41: the bit stays without a reset, and the invariant lets no block run that has it set. -/
theorem configErrorIsFatal : Obligations.ConfigErrorIsFatal := by
  intro n s h he hr
  have hstays := after_cfgErr n hr he
  exact ⟨hstays, (after_inv n h).failed.1 hstays⟩

end Sys2Proof.Machine
end

section
/-!
PROOFS. The slot and the serializer that takes its word (spec/20_memory.md R71, spec/41_protocol_sequencer.md R130,
spec/43_system_step.md R184).

While an active block holds a word and the host sends no DEACTIVATE, every accepted command is without effect, so the
sequencer's side of the state (`sequencerView`) moves at the ticks alone, by the phase in force. Followed to the next
tick, that is all a statement on a tick period needs.
-/

namespace Sys2Proof.Machine

variable {s t : State}

/-! ### The next tick -/

theorem undisturbed_succ {n : Nat} (h : undisturbed (n + 1) s) :
    (portInputs s).rst = false ∧ deactNow s = false ∧ undisturbed n (advance s) := by
  obtain ⟨hreset, hdeact⟩ := h
  obtain ⟨hrst, hresetLater⟩ := noReset_succ hreset
  obtain ⟨hnot, hdeactLater⟩ :=
    forall_inputs_succ (P := fun io => ¬ io.presents 1#2) (by decide) hdeact
  refine ⟨hrst, Bool.eq_false_iff.2 fun hd => hnot ?_, hresetLater, hdeactLater⟩
  obtain ⟨hacc, hop⟩ := (Bool.and_eq_true _ _).mp hd
  obtain ⟨hvalid, -⟩ := (Bool.and_eq_true _ _).mp hacc
  exact ⟨hvalid, of_decide_eq_true hop⟩

theorem tickEn_of_nextTickIn_zero (h : Inv s) (hj : nextTickIn 0 s) : tickEn s = true := by
  obtain ⟨-, htick⟩ := hj
  obtain ⟨-, hrange⟩ := h.dividers
  rw [Nat.add_zero, Nat.mod_eq_of_lt hrange] at htick
  exact (tickEn_iff s).2 htick

theorem tickEn_of_nextTickIn_succ {j : Nat} (h : Inv s) (hj : nextTickIn (j + 1) s) : tickEn s = false := by
  refine Bool.eq_false_iff.2 fun htick => ?_
  have hnow := (tickEn_iff s).1 htick
  obtain ⟨-, hrange⟩ := h.dividers
  simp only [nextTickIn, basePerTick] at hj hrange
  omega

theorem nextTickIn_advance {j : Nat} (hr : (portInputs s).rst = false) (hj : nextTickIn (j + 1) s) :
    nextTickIn j (advance s) := by
  simp only [nextTickIn, advance_tickDiv s hr, nextTickDiv_toNat, advance_params, basePerTick] at hj ⊢
  omega

/-- A tick leaves a whole period to the next one. -/
theorem nextTickIn_advance_of_tick (hr : (portInputs s).rst = false) (h : nextTickIn 0 s) :
    nextTickIn 37 (advance s) := by
  simp only [nextTickIn, advance_tickDiv s hr, nextTickDiv_toNat, advance_params, basePerTick] at h ⊢
  omega

/-! ### The parts of a cycle, as the sequencer sees them -/

section
variable (s : State)

@[simp] theorem sequencerView_active : (sequencerView s).active = s.active := rfl
@[simp] theorem sequencerView_qFull : (sequencerView s).qFull = s.qFull := rfl
@[simp] theorem sequencerView_qWord : (sequencerView s).qWord = s.qWord := rfl
@[simp] theorem sequencerView_sig : (sequencerView s).sig = s.sig := rfl
@[simp] theorem sequencerView_osr : (sequencerView s).osr = s.osr := rfl
@[simp] theorem sequencerView_psPhase : (sequencerView s).psPhase = s.psPhase := rfl
@[simp] theorem sequencerView_psCnt : (sequencerView s).psCnt = s.psCnt := rfl

end

theorem sequencerView_endCycle (s : State) : sequencerView (endCycle s) = sequencerView s := rfl

theorem sequencerView_stepResult (g : CgStep) (s : State) :
    sequencerView (resultOf (stepInstr g) s) = sequencerView s := by
  cases g <;> simp only [stepInstr, resultOf_cgLow, resultOf_cgWait, resultOf_cgHigh] <;> split <;> rfl

theorem sequencerView_carrierPart (s t : State) :
    sequencerView (partResult (carrierInstr s) t) = sequencerView t := by
  obtain ⟨-, -, -, e⟩ | e := carrierPart_cases s t
  · rw [e, sequencerView_stepResult]
  · rw [e]

/-- A phase reads and writes nothing outside the sequencer's view. -/
theorem sequencerView_phaseResult (p : Phase) (s : State) :
    sequencerView (resultOf (phaseInstr p) s) = resultOf (phaseInstr p) (sequencerView s) := by
  cases p <;> simp only [phaseInstr, resultOf_idle, resultOf_leaderPulse, resultOf_leaderSpace, resultOf_bitPulse,
    resultOf_bitSpace, resultOf_stopBit, resultOf_gap, timedPhase, apply_ite sequencerView] <;> rfl

theorem startEngines_of_active (h : s.active = true) : startEngines s = s := by
  simp only [startEngines, ← h]

/-- In an active block whose slot was full no command but DEACTIVATE has an effect: ACTIVATE finds the engines
running, SEND is held, and the reserved code does nothing (R163, R167, R170). -/
theorem hostPart_of_full (hfull : s.qFull = true) (hd : deactNow s = false) (ha : t.active = true)
    (hok : t.params.cfgOk = true) : partResult (hostInstr s) t = t := by
  obtain ⟨hacc, e⟩ | e := hostPart_cases s t
  · have hnotDeactivate : (portInputs s).op.toNat ≠ 1 := fun hop => by
      simp [deactNow, hacc, BitVec.eq_of_toNat_eq (y := 1#2) hop] at hd
    have hnotSend : (portInputs s).op.toNat ≠ 2 := fun hop => by
      simp [accepted, cmdReady, hfull, BitVec.eq_of_toNat_eq (y := 2#2) hop] at hacc
    rw [e, portInstr]
    split
    · rw [resultOf_activate, if_pos hok, startEngines_of_active ha]
    · next hop => exact absurd hop hnotDeactivate
    · next hop => exact absurd hop hnotSend
    · rfl
  · exact e

/-! ### A block that holds a word, to its next tick -/

theorem sequencerPart_active (s t : State) : (partResult (sequencerInstr s) t).active = t.active := by
  obtain ⟨-, -, -, e⟩ | e := sequencerPart_cases s t <;> simp [e]

theorem carrierPart_params (s t : State) : (partResult (carrierInstr s) t).params = t.params := by
  obtain ⟨-, -, -, e⟩ | e := carrierPart_cases s t <;> simp [e]

theorem sequencerPart_params (s t : State) : (partResult (sequencerInstr s) t).params = t.params := by
  obtain ⟨-, -, -, e⟩ | e := sequencerPart_cases s t <;> simp [e]

/-- The base cycle of an active block with a full slot: the phase in force runs at a tick, and nothing else of the
sequencer's side moves. -/
theorem sequencerView_advance_of_full (h : Inv s) (ha : s.active = true) (hfull : s.qFull = true)
    (hr : (portInputs s).rst = false) (hd : deactNow s = false) :
    sequencerView (advance s) =
      if tickEn s then resultOf (phaseInstr s.psPhase) (sequencerView s) else sequencerView s := by
  obtain ⟨-, -, hrunsOnlyWhereOk⟩ := h.failed
  have hok : s.params.cfgOk = true := hrunsOnlyWhereOk ha
  have hgo : enginesGo s = true := enginesGo_iff.2 ⟨ha, hd⟩
  have hhost := hostPart_of_full (t := partResult (sequencerInstr s) (partResult (carrierInstr s) s)) hfull hd
    (by rw [sequencerPart_active, carrierPart_active, ha])
    (by rw [sequencerPart_params, carrierPart_params, hok])
  rw [advance_parts hr, hhost, sequencerView_endCycle, sequencerInstr_eq, hgo, Bool.true_and, partResult_of_if]
  split
  · rw [sequencerView_phaseResult, sequencerView_carrierPart]
  · rw [sequencerView_carrierPart]

/-- An active block with a full slot keeps its sequencer's side until the next tick; there the phase in force runs,
and a whole tick period begins. -/
theorem nextTick_runs_phase {j : Nat} (h : Inv s) (ha : s.active = true) (hfull : s.qFull = true)
    (hj : nextTickIn j s) (hu : undisturbed (j + 1) s) :
    (∀ k, k ≤ j → sequencerView (after k s) = sequencerView s) ∧
    sequencerView (after (j + 1) s) = resultOf (phaseInstr s.psPhase) (sequencerView s) ∧
    nextTickIn 37 (after (j + 1) s) := by
  induction j generalizing s with
  | zero =>
    obtain ⟨hr, hd, -⟩ := undisturbed_succ hu
    have hview := sequencerView_advance_of_full h ha hfull hr hd
    rw [if_pos (tickEn_of_nextTickIn_zero h hj)] at hview
    refine ⟨fun k hk => ?_, hview, nextTickIn_advance_of_tick hr hj⟩
    rw [Nat.le_zero.1 hk, after_zero]
  | succ j ih =>
    obtain ⟨hr, hd, hlater⟩ := undisturbed_succ hu
    have hview : sequencerView (advance s) = sequencerView s := by
      rw [sequencerView_advance_of_full h ha hfull hr hd, tickEn_of_nextTickIn_succ h hj]
      rfl
    have hactive : (advance s).active = true := by simpa [ha] using congrArg State.active hview
    have hheld : (advance s).qFull = true := by simpa [hfull] using congrArg State.qFull hview
    have hphase : (advance s).psPhase = s.psPhase := by simpa using congrArg State.psPhase hview
    obtain ⟨hstays, hruns, hperiod⟩ := ih (advance_inv h) hactive hheld (nextTickIn_advance hr hj) hlater
    rw [hphase, hview] at hruns
    refine ⟨fun k hk => ?_, hruns, hperiod⟩
    cases k with
    | zero => rfl
    | succ k => exact (hstays k (Nat.le_of_succ_le_succ hk)).trans hview

/-- Settles O51: IDLE is the phase that runs at the next tick, and finds the slot full (R130). -/
theorem idleTakesTheWordAtTheNextTick : Obligations.IdleTakesTheWordAtTheNextTick := by
  intro j s h ha hp hfull hj hu
  obtain ⟨hstays, hruns, hperiod⟩ := nextTick_runs_phase h ha hfull hj hu
  rw [hp, phaseInstr, resultOf_idle, if_pos (show (sequencerView s).qFull = true from hfull)] at hruns
  refine ⟨fun k hk => ⟨?_, ?_⟩, ⟨?_, ?_, ?_, hperiod⟩, ?_, ?_, ?_, ?_⟩
  · simpa [hp] using congrArg State.psPhase (hstays k hk)
  · simpa using congrArg State.sig (hstays k hk)
  · simpa [ha] using congrArg State.active hruns
  · simpa using congrArg State.psPhase hruns
  · simpa using congrArg State.psCnt hruns
  · simpa using congrArg State.sig hruns
  · simpa [hfull] using congrArg State.qFull hruns
  · simpa using congrArg State.qWord hruns
  · simpa using congrArg State.osr hruns

end Sys2Proof.Machine
end

section
/-!
PROOFS. Encoding: the decoder against the encoder, the field rule, SEND's word in the slot, a command that is not
accepted, and the frame read back (spec/30_encoding.md R80 to R98).

`decode_cases` says once everything the decoder can answer, `decodeCommand_cases` what `cmd_op` selects, and
`field16_of_le` with `field16_of_lt` what the field rule gives; the statements follow from these.
-/

namespace Sys2Proof.Machine

/-! ### The command word by its fields (R80) -/

/-- A command word is its three fields side by side. -/
theorem commandWord_fields (w : CommandWord) : commandWord (wordOp w) (wordCommand w) (wordAddress w) = w := by
  rw [commandWord, wordOp, wordCommand, wordAddress,
    BitVec.extractLsb'_append_extractLsb'_eq_extractLsb' (show 32 = 16 + 16 from rfl),
    BitVec.extractLsb'_append_extractLsb'_eq_extractLsb' (show 16 = 0 + 16 from rfl), BitVec.extractLsb'_eq_self]

/-- `cmd_op` is what stands from bit 32 up. -/
theorem wordOp_toNat (w : CommandWord) : (wordOp w).toNat = w.toNat / 2 ^ 32 := by
  have hlt : w.toNat < 2 ^ 34 := w.isLt
  rw [wordOp, BitVec.extractLsb'_toNat, Nat.shiftRight_eq_div_pow]
  omega

/-- Masking a command word with `0x3_0000_0000` keeps `cmd_op` and clears the operand fields. -/
theorem and_opMask (w : CommandWord) : w &&& 0x300000000#34 = wordOp w ++ 0#32 := by
  have hw : wordOp w ++ w.extractLsb' 0 32 = w := BitVec.extractLsb'_append_extractLsb' (w := 2)
  have hmask : 0x300000000#34 = BitVec.allOnes 2 ++ 0#32 := rfl
  calc w &&& 0x300000000#34
      = (wordOp w ++ w.extractLsb' 0 32) &&& (BitVec.allOnes 2 ++ 0#32) := by rw [hw, hmask]
    _ = wordOp w ++ 0#32 := by rw [BitVec.and_append, BitVec.and_allOnes, BitVec.and_zero]

/-- The match of an operation code: the masked word holds that code and zeros (R81). -/
theorem and_opMask_eq_iff (w : CommandWord) (op : OpCode) : w &&& 0x300000000#34 = op ++ 0#32 ↔ wordOp w = op := by
  rw [and_opMask, BitVec.append_left_inj]

/-! ### What the decoder answers -/

/-- `cmd_op` alone selects the operation (R81, R94). -/
theorem decodeCommand_cases (w : CommandWord) :
    (wordOp w = 0#2 ∧ decodeCommand w = .activate) ∨
    (wordOp w = 1#2 ∧ decodeCommand w = .deactivate) ∨
    (wordOp w = 2#2 ∧ decodeCommand w = .send (wordAddress w) (wordCommand w)) ∨
    (wordOp w = 3#2 ∧ decodeCommand w = .reserved) := by
  have hcodes : ∀ op : OpCode, op = 0#2 ∨ op = 1#2 ∨ op = 2#2 ∨ op = 3#2 := by decide
  obtain h | h | h | h := hcodes (wordOp w)
  · exact .inl ⟨h, by simp [decodeCommand, h]⟩
  · exact .inr (.inl ⟨h, by simp [decodeCommand, h]⟩)
  · exact .inr (.inr (.inl ⟨h, by simp [decodeCommand, h]⟩))
  · exact .inr (.inr (.inr ⟨h, by simp [decodeCommand, h]⟩))

/-- Format P: every code but 7 is a phase's (R92, R96). -/
theorem decodePhase_cases (c : PhaseCode) :
    (∃ p, c = phaseCode p ∧ decodePhase c = .ok (phaseInstr p)) ∨
    (c = 7#3 ∧ decodePhase c = .error (.unlistedPhase 7#3)) := by
  have hcodes : ∀ c : PhaseCode, c = 0#3 ∨ c = 1#3 ∨ c = 2#3 ∨ c = 3#3 ∨ c = 4#3 ∨ c = 5#3 ∨ c = 6#3 ∨ c = 7#3 := by
    decide
  obtain rfl | rfl | rfl | rfl | rfl | rfl | rfl | rfl := hcodes c
  · exact .inl ⟨.idle, rfl, rfl⟩
  · exact .inl ⟨.leaderPulse, rfl, rfl⟩
  · exact .inl ⟨.leaderSpace, rfl, rfl⟩
  · exact .inl ⟨.bitPulse, rfl, rfl⟩
  · exact .inl ⟨.bitSpace, rfl, rfl⟩
  · exact .inl ⟨.stopBit, rfl, rfl⟩
  · exact .inl ⟨.gap, rfl, rfl⟩
  · exact .inr ⟨rfl, rfl⟩

/-- Format G: every code but 3 is a step's (R93, R96). -/
theorem decodeStep_cases (c : StepCode) :
    (∃ g, c = stepCode g ∧ decodeStep c = .ok (stepInstr g)) ∨
    (c = 3#2 ∧ decodeStep c = .error (.unlistedStep 3#2)) := by
  have hcodes : ∀ c : StepCode, c = 0#2 ∨ c = 1#2 ∨ c = 2#2 ∨ c = 3#2 := by decide
  obtain rfl | rfl | rfl | rfl := hcodes c
  · exact .inl ⟨.low, rfl, rfl⟩
  · exact .inl ⟨.wait, rfl, rfl⟩
  · exact .inl ⟨.high, rfl, rfl⟩
  · exact .inr ⟨rfl, rfl⟩

theorem decode_command (w : CommandWord) : decode ⟨.h, w.toNat⟩ = .ok (decodeCommand w) := by
  simp [decode, Format.width, w.isLt]

theorem decode_phase (c : PhaseCode) : decode ⟨.p, c.toNat⟩ = decodePhase c := by
  simp [decode, Format.width, c.isLt]

theorem decode_step (c : StepCode) : decode ⟨.g, c.toNat⟩ = decodeStep c := by
  simp [decode, Format.width, c.isLt]

theorem decode_tooWide {f : Format} {b : Nat} (hb : 2 ^ f.width ≤ b) : decode ⟨f, b⟩ = .error (.tooWide f) :=
  if_neg (Nat.not_lt.2 hb)

/-- Everything the decoder can answer: a host operation for each command word, an engine's instruction for each
listed code, and one named rejection for each other number (R96, R98). -/
theorem decode_cases (f : Format) (b : Nat) :
    (∃ w : CommandWord, f = .h ∧ b = w.toNat ∧ decode ⟨f, b⟩ = .ok (decodeCommand w)) ∨
    (∃ p, f = .p ∧ b = (phaseCode p).toNat ∧ decode ⟨f, b⟩ = .ok (phaseInstr p)) ∨
    (∃ g, f = .g ∧ b = (stepCode g).toNat ∧ decode ⟨f, b⟩ = .ok (stepInstr g)) ∨
    (2 ^ f.width ≤ b ∧ decode ⟨f, b⟩ = .error (.tooWide f)) ∨
    (f = .p ∧ b = 7 ∧ decode ⟨f, b⟩ = .error (.unlistedPhase 7#3)) ∨
    (f = .g ∧ b = 3 ∧ decode ⟨f, b⟩ = .error (.unlistedStep 3#2)) := by
  by_cases hb : 2 ^ f.width ≤ b
  · exact .inr (.inr (.inr (.inl ⟨hb, decode_tooWide hb⟩)))
  obtain ⟨c, rfl⟩ : ∃ c : BitVec f.width, b = c.toNat := ⟨BitVec.ofNatLT b (Nat.lt_of_not_le hb), rfl⟩
  cases f with
  | h => exact .inl ⟨c, rfl, rfl, decode_command c⟩
  | p =>
    obtain ⟨p, rfl, -⟩ | ⟨rfl, hdec⟩ := decodePhase_cases c
    · exact .inr (.inl ⟨p, rfl, rfl, decode_phaseCode p⟩)
    · exact .inr (.inr (.inr (.inr (.inl ⟨rfl, rfl, (decode_phase 7#3).trans hdec⟩))))
  | g =>
    obtain ⟨g, rfl, -⟩ | ⟨rfl, hdec⟩ := decodeStep_cases c
    · exact .inr (.inr (.inl ⟨g, rfl, rfl, decode_stepCode g⟩))
    · exact .inr (.inr (.inr (.inr (.inr ⟨rfl, rfl, (decode_step 3#2).trans hdec⟩))))

/-! ### The encoder and the decoder -/

theorem encode_format (i : Instr) : (encode i).format = i.format := by
  cases i <;> rfl

/-- Settles O1: an instruction is a command, a phase or a step, and each is read back from its own word. -/
theorem decodeEncodeRoundTrip : Obligations.DecodeEncodeRoundTrip := by
  intro i
  refine ⟨encode_format i, ?_⟩
  obtain ⟨w, hf, hdec, hbits⟩ | ⟨p, rfl, -, henc⟩ | ⟨g, rfl, -, henc⟩ := encode_cases i
  · have henc : encode i = ⟨.h, w.toNat⟩ := by rw [← hf, ← hbits, ← encode_format i]
    rw [henc, decode_command, hdec]
  · rw [henc, decode_phaseCode]
  · rw [henc, decode_stepCode]

theorem encode_phaseInstr (p : Phase) : encode (phaseInstr p) = ⟨.p, (phaseCode p).toNat⟩ := by
  cases p <;> rfl

theorem encode_stepInstr (g : CgStep) : encode (stepInstr g) = ⟨.g, (stepCode g).toNat⟩ := by
  cases g <;> rfl

/-- The encoder's word for SEND is the word it was read from (R80). -/
theorem encode_send_fields {w : CommandWord} (hop : wordOp w = 2#2) :
    encode (.send (wordAddress w) (wordCommand w)) = ⟨.h, w.toNat⟩ := by
  rw [encode, ← hop, commandWord_fields]

/-- The encoder's word for the operation read from a command word is a command word with the same `cmd_op`. -/
theorem encode_decodeCommand (w : CommandWord) :
    ∃ v : CommandWord, encode (decodeCommand w) = ⟨.h, v.toNat⟩ ∧ wordOp v = wordOp w := by
  obtain ⟨hop, hdec⟩ | ⟨hop, hdec⟩ | ⟨hop, hdec⟩ | ⟨hop, hdec⟩ := decodeCommand_cases w <;> rw [hdec]
  · exact ⟨commandWord 0#2 0#16 0#16, rfl, hop.symm⟩
  · exact ⟨commandWord 1#2 0#16 0#16, rfl, hop.symm⟩
  · exact ⟨w, encode_send_fields hop, rfl⟩
  · exact ⟨commandWord 3#2 0#16 0#16, rfl, hop.symm⟩

/-- Of the operations of format H only SEND has operands, and with them its whole word is written back (R81). -/
theorem encode_decodeCommand_eq {w : CommandWord} (ha : decodeCommand w ≠ .activate)
    (hd : decodeCommand w ≠ .deactivate) (hr : decodeCommand w ≠ .reserved) :
    encode (decodeCommand w) = ⟨.h, w.toNat⟩ := by
  obtain ⟨-, hdec⟩ | ⟨-, hdec⟩ | ⟨hop, hdec⟩ | ⟨-, hdec⟩ := decodeCommand_cases w
  · exact absurd hdec ha
  · exact absurd hdec hd
  · rw [hdec, encode_send_fields hop]
  · exact absurd hdec hr

/-- Settles O2: of the six cases of the decoder, the three that answer an instruction. -/
theorem encodeInvertsDecode : Obligations.EncodeInvertsDecode := by
  rintro ⟨f, b⟩ i h
  obtain ⟨w, rfl, rfl, hdec⟩ | ⟨p, rfl, rfl, hdec⟩ | ⟨g, rfl, rfl, hdec⟩ | ⟨-, hdec⟩ | ⟨-, -, hdec⟩ | ⟨-, -, hdec⟩ :=
    decode_cases f b <;> cases hdec.symm.trans h
  · obtain ⟨v, henc, hop⟩ := encode_decodeCommand w
    refine ⟨by rw [henc], ?_, encode_decodeCommand_eq⟩
    rw [henc, ← wordOp_toNat, ← wordOp_toNat, hop]
  · rw [encode_phaseInstr]
    exact ⟨rfl, rfl, fun _ _ _ => rfl⟩
  · rw [encode_stepInstr]
    exact ⟨rfl, rfl, fun _ _ _ => rfl⟩

/-! ### The rejections by name (R96, R98) -/

theorem decode_ok_iff_wf (f : Format) (b : Nat) :
    (∃ i, decode ⟨f, b⟩ = .ok i) ↔ EncodedWord.wf ⟨f, b⟩ = true := by
  obtain ⟨w, rfl, rfl, hdec⟩ | ⟨p, rfl, rfl, hdec⟩ | ⟨g, rfl, rfl, hdec⟩ | ⟨hb, hdec⟩ | ⟨rfl, rfl, hdec⟩ |
    ⟨rfl, rfl, hdec⟩ := decode_cases f b
  · exact iff_of_true ⟨_, hdec⟩ (decide_eq_true w.isLt)
  · exact iff_of_true ⟨_, hdec⟩ (by cases p <;> rfl)
  · exact iff_of_true ⟨_, hdec⟩ (by cases g <;> rfl)
  · refine iff_of_false (by simp [hdec]) ?_
    cases f <;> simp only [Format.width, EncodedWord.wf, decide_eq_true_eq] at hb ⊢ <;> omega
  · exact iff_of_false (by simp [hdec]) (by decide)
  · exact iff_of_false (by simp [hdec]) (by decide)

theorem decode_tooWide_iff (f : Format) (b : Nat) :
    decode ⟨f, b⟩ = .error (.tooWide f) ↔ 2 ^ f.width ≤ b := by
  obtain ⟨w, rfl, rfl, hdec⟩ | ⟨p, rfl, rfl, hdec⟩ | ⟨g, rfl, rfl, hdec⟩ | ⟨hb, hdec⟩ | ⟨rfl, rfl, hdec⟩ |
    ⟨rfl, rfl, hdec⟩ := decode_cases f b
  · exact iff_of_false (by simp [hdec]) (Nat.not_le.2 w.isLt)
  · exact iff_of_false (by simp [hdec]) (Nat.not_le.2 (phaseCode p).isLt)
  · exact iff_of_false (by simp [hdec]) (Nat.not_le.2 (stepCode g).isLt)
  · exact iff_of_true hdec hb
  · exact iff_of_false (by simp [hdec]) (by decide)
  · exact iff_of_false (by simp [hdec]) (by decide)

theorem decode_unlistedPhase_iff (b : Nat) : decode ⟨.p, b⟩ = .error (.unlistedPhase 7#3) ↔ b = 7 := by
  constructor
  · intro h
    obtain ⟨_, ⟨⟩, -⟩ | ⟨_, -, -, hdec⟩ | ⟨_, ⟨⟩, -⟩ | ⟨-, hdec⟩ | ⟨-, hb, -⟩ | ⟨⟨⟩, -⟩ := decode_cases .p b
    · cases hdec.symm.trans h
    · cases hdec.symm.trans h
    · exact hb
  · rintro rfl
    rfl

theorem decode_unlistedStep_iff (b : Nat) : decode ⟨.g, b⟩ = .error (.unlistedStep 3#2) ↔ b = 3 := by
  constructor
  · intro h
    obtain ⟨_, ⟨⟩, -⟩ | ⟨_, ⟨⟩, -⟩ | ⟨_, -, -, hdec⟩ | ⟨-, hdec⟩ | ⟨⟨⟩, -⟩ | ⟨-, hb, -⟩ := decode_cases .g b
    · cases hdec.symm.trans h
    · cases hdec.symm.trans h
    · exact hb
  · rintro rfl
    rfl

/-- Settles O3: each of the decoder's answers is given in one of the six cases only. -/
theorem decodeRejectsByName : Obligations.DecodeRejectsByName := fun f b =>
  ⟨decode_ok_iff_wf f b, decode_tooWide_iff f b, decode_unlistedPhase_iff b, decode_unlistedStep_iff b⟩

/-- Settles O4: the match is on `cmd_op`, and by `decodeCommand_cases` each operation comes from one code alone. -/
theorem opcodeSelectsCommand : Obligations.OpcodeSelectsCommand := by
  intro w
  have hactivate : w &&& 0x300000000#34 = 0x000000000#34 ↔ wordOp w = 0#2 := and_opMask_eq_iff w 0#2
  have hdeactivate : w &&& 0x300000000#34 = 0x100000000#34 ↔ wordOp w = 1#2 := and_opMask_eq_iff w 1#2
  have hsend : w &&& 0x300000000#34 = 0x200000000#34 ↔ wordOp w = 2#2 := and_opMask_eq_iff w 2#2
  have hreserved : w &&& 0x300000000#34 = 0x300000000#34 ↔ wordOp w = 3#2 := and_opMask_eq_iff w 3#2
  rw [hactivate, hdeactivate, hsend, hreserved]
  obtain ⟨hop, hdec⟩ | ⟨hop, hdec⟩ | ⟨hop, hdec⟩ | ⟨hop, hdec⟩ := decodeCommand_cases w <;>
    simp [hop, hdec, wordAddress, wordCommand]

/-! ### The field rule (R85) -/

/-- A value that fits in 8 bits has a zero byte above it. -/
theorem exists_byte_of_le {v : Field} (h : v ≤ 0x00FF#16) : ∃ b : BitVec 8, v = 0#8 ++ b := by
  have hle : v.toNat ≤ 255 := h
  have hhigh : v.extractLsb' 8 8 = 0#8 := by
    apply BitVec.eq_of_toNat_eq
    rw [BitVec.extractLsb'_toNat, Nat.shiftRight_eq_div_pow, Nat.div_eq_of_lt (by omega)]
    rfl
  have hbytes : v.extractLsb' 8 8 ++ v.extractLsb' 0 8 = v := BitVec.extractLsb'_append_extractLsb' (w := 8)
  exact ⟨v.extractLsb' 0 8, by rw [← hhigh, hbytes]⟩

/-- The field of a byte is the byte under its complement. -/
theorem field16_byte (b : BitVec 8) : field16 (0#8 ++ b) = ~~~ b ++ b := by
  have hle : 0#8 ++ b ≤ 0x00FF#16 := by
    have hb : (0#8 ++ b).toNat = b.toNat := by rw [BitVec.toNat_append]; simp
    rw [BitVec.le_def, hb]
    exact Nat.le_of_lt_succ b.isLt
  rw [field16, if_pos hle, BitVec.extractLsb'_append_eq_right]

/-- A value that fits in 8 bits is sent as a complement pair, as R85 writes it with a mask and a shift. -/
theorem field16_of_le {v : Field} (h : v ≤ 0x00FF#16) : field16 v = ((~~~ v &&& 0x00FF#16) <<< 8) ||| v := by
  obtain ⟨b, rfl⟩ := exists_byte_of_le h
  have hmask : ~~~ (0#8 ++ b) &&& 0x00FF#16 = 0#8 ++ ~~~ b := by
    rw [BitVec.not_append, show 0x00FF#16 = 0#8 ++ BitVec.allOnes 8 from rfl, BitVec.and_append, BitVec.and_zero,
      BitVec.and_allOnes]
  have hshift : (0#8 ++ ~~~ b) <<< 8 = ~~~ b ++ 0#8 := by
    rw [BitVec.shiftLeft_eq_concat_of_lt (by decide), BitVec.extractLsb'_append_eq_right]
    rfl
  rw [field16_byte, hmask, hshift, BitVec.or_append, BitVec.or_zero, BitVec.zero_or]

/-- A larger value is sent verbatim. -/
theorem field16_of_lt {v : Field} (h : 0x00FF#16 < v) : field16 v = v :=
  if_neg (BitVec.not_le.2 h)

theorem addressField_codeWord (a c : Field) : addressField (codeWord a c) = field16 a :=
  BitVec.extractLsb'_append_eq_right

theorem commandField_codeWord (a c : Field) : commandField (codeWord a c) = field16 c :=
  BitVec.extractLsb'_append_eq_left

/-- Settles O6: the two ranges of the rule, and the halves of the Code Word read apart. -/
theorem fieldRule : Obligations.FieldRule :=
  ⟨fun _ => ⟨field16_of_le, field16_of_lt⟩, fun a c => ⟨addressField_codeWord a c, commandField_codeWord a c⟩,
    rfl, rfl, rfl, rfl⟩

/-- The complement byte of a value below 0xFF is not zero, so no field falls below 0x00FF (R87). -/
theorem le_field16 (v : Field) : 0x00FF#16 ≤ field16 v := by
  by_cases h : v ≤ 0x00FF#16
  · obtain ⟨b, rfl⟩ := exists_byte_of_le h
    have hpair : (~~~ b ++ b).toNat = (255 - b.toNat) * 2 ^ 8 + b.toNat := by
      rw [BitVec.toNat_append, ← Nat.shiftLeft_add_eq_or_of_lt b.isLt, Nat.shiftLeft_eq, BitVec.toNat_not]
    have hge : 255 ≤ (255 - b.toNat) * 2 ^ 8 + b.toNat := by omega
    rw [field16_byte, BitVec.le_def, hpair]
    exact hge
  · rw [field16_of_lt (BitVec.not_le.1 h)]
    exact BitVec.le_of_lt (BitVec.not_le.1 h)

/-- A field that can be produced is its own encoding: 0x00FF is the pair of a zero complement, the rest is
verbatim. -/
theorem field16_of_ge {f : Field} (h : 0x00FF#16 ≤ f) : field16 f = f := by
  by_cases hleast : 0x00FF#16 = f
  · rw [← hleast]
    rfl
  · exact field16_of_lt (BitVec.lt_of_le_ne h hleast)

/-- Settles O7: the fields that can be produced are the fixed points of the rule. -/
theorem fieldsThatCanBeProduced : Obligations.FieldsThatCanBeProduced := by
  refine ⟨fun f => ⟨?_, fun h => ⟨f, field16_of_ge h⟩⟩, fun v => field16_of_ge (le_field16 v)⟩
  rintro ⟨v, rfl⟩
  exact le_field16 v

/-! ### SEND and the command port (R82, R166) -/

/-- Settles O8: the word is the Code Word of the operands, and its fields are those of the field rule. -/
theorem sendFillsTheSlot : Obligations.SendFillsTheSlot := by
  intro a c s hempty
  refine ⟨codeWord a c, ?_, ?_⟩
  · rw [exec_eq_resultOf, resultOf_send, hempty]
    rfl
  · rw [addressField_codeWord, commandField_codeWord]
    exact ⟨field16_of_le, field16_of_lt, field16_of_le, field16_of_lt⟩

/-- Settles O9: on a full slot SEND's code is not ready, and its meaning takes the branch that writes nothing. -/
theorem sendOnFullSlotIsHeld : Obligations.SendOnFullSlotIsHeld := by
  intro a c s hfull
  refine ⟨by simp [cmdReady, hfull], ?_⟩
  rw [exec_eq_resultOf, resultOf_send, if_pos hfull]

/-- The same block before another host: the inputs to come replaced (R44). -/
def withInputs (l : List Inputs) (s : State) : State := { s with inputs := l }

/-- No meaning reads the inputs or writes them: an instruction gives the same under any host. -/
theorem resultOf_withInputs (i : Instr) (l : List Inputs) (s : State) :
    resultOf i (withInputs l s) = withInputs l (resultOf i s) := by
  cases i <;> simp only [resultOf_activate, resultOf_deactivate, resultOf_send, resultOf_reserved, resultOf_idle,
    resultOf_leaderPulse, resultOf_leaderSpace, resultOf_bitPulse, resultOf_bitSpace, resultOf_stopBit, resultOf_gap,
    resultOf_cgLow, resultOf_cgWait, resultOf_cgHigh, timedPhase, apply_ite (withInputs l), apply_ite stopEngines,
    apply_ite (drivePin · Level.low)] <;> rfl

theorem partResult_withInputs (o : Option Instr) (l : List Inputs) (s : State) :
    partResult o (withInputs l s) = withInputs l (partResult o s) := by
  cases o with
  | none => rfl
  | some i => exact resultOf_withInputs i l s

theorem partResult_inputs (o : Option Instr) (s : State) : (partResult o s).inputs = s.inputs := by
  have hsame : partResult o s = withInputs s.inputs (partResult o s) := partResult_withInputs o s.inputs s
  rw [hsame]
  rfl

/-- At the end of a base cycle this cycle's inputs are gone. -/
theorem consumeInputs_withInputs {l : List Inputs} {s : State} (h : l.tail = s.inputs.tail) :
    consumeInputs (withInputs l s) = consumeInputs s := by
  rw [consumeInputs, consumeInputs, ← h]
  rfl

theorem endCycle_withInputs {l : List Inputs} {s : State} (h : l.tail = s.inputs.tail) :
    endCycle (withInputs l s) = endCycle s :=
  consumeInputs_withInputs (s := advanceDividers s) h

theorem hostInstr_of_not_accepted {s : State} (h : accepted s = false) : hostInstr s = none := by
  simp [hostInstr_eq, h]

theorem enginesGo_of_not_accepted {s : State} (h : accepted s = false) : enginesGo s = s.active := by
  simp [enginesGo, running, deactNow, h]

theorem sequencerInstr_of_not_accepted {s : State} (h : accepted s = false) :
    sequencerInstr s = if s.active && tickEn s then some (phaseInstr s.psPhase) else none := by
  rw [sequencerInstr_eq, enginesGo_of_not_accepted h]

theorem carrierInstr_of_not_accepted {s : State} (h : accepted s = false) :
    carrierInstr s = if s.active && carEn s then some (stepInstr s.cgStep) else none := by
  rw [carrierInstr_eq, enginesGo_of_not_accepted h]

/-- Two hosts of whose commands neither is accepted, with the same reset and the same inputs afterwards, take the
block to the same state: the base cycle is the engines' alone. -/
theorem step_withInputs_of_not_accepted {s : State} {l : List Inputs} (hs : accepted s = false)
    (ht : accepted (withInputs l s) = false) (hrst : (portInputs (withInputs l s)).rst = (portInputs s).rst)
    (htail : l.tail = s.inputs.tail) : step s = step (withInputs l s) := by
  cases hr : (portInputs s).rst with
  | true =>
    rw [step_reset hr, step_reset (hrst.trans hr)]
    exact congrArg Host.Outcome.next (consumeInputs_withInputs (s := takeReset s) htail).symm
  | false =>
    have hseq : sequencerInstr (withInputs l s) = sequencerInstr s := by
      rw [sequencerInstr_of_not_accepted hs, sequencerInstr_of_not_accepted ht]
      rfl
    have hcar : carrierInstr (withInputs l s) = carrierInstr s := by
      rw [carrierInstr_of_not_accepted hs, carrierInstr_of_not_accepted ht]
      rfl
    rw [step_parts hr, step_parts (hrst.trans hr), hostInstr_of_not_accepted hs, hostInstr_of_not_accepted ht, hseq,
      hcar, partResult_withInputs, partResult_withInputs, partResult_none, partResult_none]
    rw [endCycle_withInputs (by rw [partResult_inputs, partResult_inputs, htail])]

/-- Settles O10: with the command withdrawn nothing is accepted either. -/
theorem unacceptedCommandHasNoEffect : Obligations.UnacceptedCommandHasNoEffect := by
  intro s io rest hio hs
  exact step_withInputs_of_not_accepted hs rfl (by simp [portInputs, withInputs, hio]) (by simp [hio])

/-! ### The frame read back (R90) -/

theorem readSpace_of_bit (b : Bool) : readSpace (if b then 84 else 28) = some b := by
  cases b <;> rfl

/-- The pairs of the bits from `i` on read back as the word shifted down by `i`, as far as there are pairs,
whatever follows them on the Signal. -/
theorem readPairs_bitPairs (w : CodeWord) (i n : Nat) (rest : List (Signal × Nat)) :
    readPairs n (signalRuns (bitPairs w i n) ++ rest) = some (w.toNat >>> i % 2 ^ n) := by
  induction n generalizing i with
  | zero => simp [readPairs, Nat.mod_one]
  | succ n ih =>
    have hbit : (if w.getLsbD i then 1 else 0) = w.toNat >>> i % 2 := by
      rw [← BitVec.testBit_toNat, Nat.testBit_eq_decide_div_mod_eq, Nat.shiftRight_eq_div_pow]
      rcases Nat.mod_two_eq_zero_or_one (w.toNat / 2 ^ i) with h | h <;> simp [h]
    have hsplit : w.toNat >>> i % 2 ^ (n + 1) = w.toNat >>> i % 2 + 2 * (w.toNat >>> (i + 1) % 2 ^ n) := by
      rw [Nat.pow_succ', Nat.mod_mul, Nat.shiftRight_succ]
    have hpair : signalRuns (bitPairs w i (n + 1)) ++ rest =
        (.cleared, 28) :: (.set, if w.getLsbD i then 84 else 28) ::
          (signalRuns (bitPairs w (i + 1) n) ++ rest) := rfl
    rw [hpair, hsplit, ← hbit]
    simp only [readPairs, readSpace_of_bit, ih]

/-- Settles O50: after the leader, the frame is the thirty-two pairs and the stop, which is not read. -/
theorem frameReadsBack : Obligations.FrameReadsBack := by
  intro w
  have hframe : signalRuns (frameSymbols w) = (.cleared, 450) :: (.set, 225) ::
      (signalRuns (bitPairs w 0 32) ++ [(.cleared, 28), (.set, 7000)]) := by
    simp [frameSymbols, signalRuns]
  rw [hframe, readFrame, readPairs_bitPairs]
  simp only [Nat.shiftRight_zero, Nat.mod_eq_of_lt w.isLt, Option.map_some, BitVec.ofNat_toNat, BitVec.setWidth_eq]

end Sys2Proof.Machine
end

section
/-!
PROOFS. The CarrierGenerator: its three steps, what it reads, and what reads it (spec/40_carrier_generator.md R110 to
R113, R116, R121).

A base cycle's effect on the carrier's elements is that of the carrier's part alone, or of the DEACTIVATE accepted in
it; outside those elements the carrier's part does nothing at all.
-/

namespace Sys2Proof.Machine

variable {s t u : State}

/-! ### The three steps (R111 to R113) -/

/-- Settles O26: the two branches of the count. -/
theorem cgLowDrivesLow : Obligations.CgLowDrivesLow := by
  refine fun s => ⟨fun hc => ?_, fun hc => ?_⟩
  · rw [exec_eq_resultOf, resultOf_cgLow, if_pos ((stepCounting_iff s).2 hc)]
    rfl
  · rw [exec_eq_resultOf, resultOf_cgLow, if_neg (mt (stepCounting_iff s).1 hc)]
    rfl

/-- Settles O27: the two values of the Signal. -/
theorem cgWaitTestsTheSignal : Obligations.CgWaitTestsTheSignal := by
  refine fun s => ⟨fun hsig => ?_, fun hsig => ?_⟩
  · rw [exec_eq_resultOf, resultOf_cgWait, if_pos ((signalCleared_iff s).2 hsig)]
    rfl
  · rw [exec_eq_resultOf, resultOf_cgWait, if_neg (by simp [hsig])]

/-- Settles O28: the two branches of the count. -/
theorem cgHighEndsLow : Obligations.CgHighEndsLow := by
  refine fun s => ⟨fun hc => ?_, fun hc => ?_⟩
  · rw [exec_eq_resultOf, resultOf_cgHigh, if_pos ((stepCounting_iff s).2 hc)]
    rfl
  · rw [exec_eq_resultOf, resultOf_cgHigh, if_neg (mt (stepCounting_iff s).1 hc)]
    rfl

/-! ### What a base cycle does to the carrier's elements (R110, R116) -/

/-- The carrier's elements are the same in both states (R20). -/
structure SameCarrier (s t : State) : Prop where
  step  : s.cgStep = t.cgStep
  count : s.cgCnt = t.cgCnt
  pin   : s.pin = t.pin

theorem SameCarrier.trans (h : SameCarrier s t) (h' : SameCarrier t u) : SameCarrier s u :=
  ⟨h.step.trans h'.step, h.count.trans h'.count, h.pin.trans h'.pin⟩

theorem SameCarrier.symm (h : SameCarrier s t) : SameCarrier t s :=
  ⟨h.step.symm, h.count.symm, h.pin.symm⟩

/-- `cmd_ready` holds of DEACTIVATE's code whatever the slot is (R82). -/
theorem deactNow_eq (s : State) :
    deactNow s = ((portInputs s).valid && decide ((portInputs s).op = 1#2)) := by
  by_cases hop : (portInputs s).op = 1#2 <;> simp [deactNow, accepted, cmdReady, hop]

/-- A carrier step reads the Signal and the carrier's own elements. -/
theorem stepResult_sameCarrier (g : CgStep) (h : SameCarrier s t) (hsig : s.sig = t.sig) :
    SameCarrier (resultOf (stepInstr g) s) (resultOf (stepInstr g) t) := by
  have hcounting : stepCounting s = stepCounting t := by rw [stepCounting, h.count, stepCounting]
  have hcleared : signalCleared s = signalCleared t := by rw [signalCleared, hsig, signalCleared]
  obtain ⟨hstep, hcount, hpin⟩ := h
  cases g with
  | low =>
    rw [stepInstr, resultOf_cgLow, resultOf_cgLow, hcounting]
    split <;> constructor <;> simp [hstep, hcount]
  | wait =>
    rw [stepInstr, resultOf_cgWait, resultOf_cgWait, hcleared]
    split <;> constructor <;> simp [hstep, hcount, hpin]
  | high =>
    rw [stepInstr, resultOf_cgHigh, resultOf_cgHigh, hcounting]
    split <;> constructor <;> simp [hstep, hcount, hpin]

theorem sequencerPart_sameCarrier (s t : State) : SameCarrier (partResult (sequencerInstr s) t) t := by
  obtain ⟨-, -, -, e⟩ | e := sequencerPart_cases s t <;> rw [e]
  · exact ⟨phaseResult_cgStep t _, phaseResult_cgCnt t _, phaseResult_pin t _⟩
  · exact ⟨rfl, rfl, rfl⟩

/-- Of the host's operations DEACTIVATE alone writes the carrier's elements (R160, R164). -/
theorem hostPart_sameCarrier (hd : deactNow s = false) (t : State) :
    SameCarrier (partResult (hostInstr s) t) t := by
  obtain ⟨hacc, e⟩ | e := hostPart_cases s t <;> rw [e]
  · have hnotDeactivate : (portInputs s).op.toNat ≠ 1 := fun hop => by
      simp [deactNow, hacc, BitVec.eq_of_toNat_eq (y := 1#2) hop] at hd
    unfold portInstr
    split
    · rw [resultOf_activate]
      split <;> exact ⟨rfl, rfl, rfl⟩
    · next hop => exact absurd hop hnotDeactivate
    · rw [resultOf_send]
      split <;> exact ⟨rfl, rfl, rfl⟩
    · exact ⟨rfl, rfl, rfl⟩
  · exact ⟨rfl, rfl, rfl⟩

/-- In a base cycle without reset and DEACTIVATE the carrier's elements are those its own part gives. -/
theorem advance_sameCarrier (hr : (portInputs s).rst = false) (hd : deactNow s = false) :
    SameCarrier (advance s) (partResult (carrierInstr s) s) := by
  have hparts := (hostPart_sameCarrier hd _).trans (sequencerPart_sameCarrier s (partResult (carrierInstr s) s))
  rw [advance_parts hr]
  exact ⟨hparts.step, hparts.count, hparts.pin⟩

/-- A DEACTIVATE stops the engines and keeps the pin (R164, R204). -/
theorem advance_of_deactivate (hr : (portInputs s).rst = false) (hd : deactNow s = true) :
    (advance s).active = false ∧ (advance s).cgStep = .low ∧ (advance s).cgCnt = cgLowClks ∧
      (advance s).pin = s.pin := by
  obtain ⟨hacc, hop⟩ := (Bool.and_eq_true _ _).mp hd
  have hhost : hostInstr s = some .deactivate := by
    simp [hostInstr_eq, hacc, portInstr, of_decide_eq_true hop]
  have hcar : carrierInstr s = none := by simp [carrierInstr_eq, enginesGo, hd]
  have hpin : (advance s).pin = s.pin := by rw [advance_pin hr, hcar, partResult_none]
  refine ⟨?_, ?_, ?_, hpin⟩ <;> rw [advance_parts hr, hhost] <;> simp

/-- Settles O43: reset and DEACTIVATE read none of the carrier's elements but the pin, and in every other base cycle
the carrier's part decides, which is the same part run on the same Signal. -/
theorem carrierReadsOnlyTheSignal : Obligations.CarrierReadsOnlyTheSignal := by
  intro s t hsig hactive hinputs hstep hcount hpin hdiv hphase
  have hport : portInputs s = portInputs t := by rw [portInputs, hinputs, portInputs]
  have hdeact : deactNow s = deactNow t := by rw [deactNow_eq, hport, deactNow_eq]
  cases hr : (portInputs t).rst with
  | true =>
    rw [advance_reset (hport ▸ hr), advance_reset hr]
    exact ⟨rfl, rfl, rfl, rfl⟩
  | false =>
    have hr' : (portInputs s).rst = false := hport ▸ hr
    have hdivs : (advance s).carDiv = (advance t).carDiv := by
      rw [advance_carDiv s hr', advance_carDiv t hr, hdiv]
    cases hd : deactNow t with
    | true =>
      obtain ⟨-, hstep', hcount', hpin'⟩ := advance_of_deactivate hr' (hdeact.trans hd)
      obtain ⟨-, hstep'', hcount'', hpin''⟩ := advance_of_deactivate hr hd
      exact ⟨hstep'.trans hstep''.symm, hcount'.trans hcount''.symm, hpin'.trans (hpin.trans hpin''.symm), hdivs⟩
    | false =>
      have hclock : carEn s = carEn t := by rw [carEn, hdiv, hphase, carEn]
      have hgo : enginesGo s = enginesGo t := by rw [enginesGo, running, hactive, hdeact, enginesGo, running]
      have hcar : carrierInstr s = carrierInstr t := by rw [carrierInstr_eq, hgo, hclock, hstep, carrierInstr_eq]
      have hpart : SameCarrier (partResult (carrierInstr s) s) (partResult (carrierInstr t) t) := by
        rw [hcar, carrierInstr_eq, partResult_of_if, partResult_of_if]
        split
        · exact stepResult_sameCarrier t.cgStep ⟨hstep, hcount, hpin⟩ hsig
        · exact ⟨hstep, hcount, hpin⟩
      obtain ⟨hstep', hcount', hpin'⟩ :=
        ((advance_sameCarrier hr' (hdeact.trans hd)).trans hpart).trans (advance_sameCarrier hr hd).symm
      exact ⟨hstep', hcount', hpin', hdivs⟩

/-! ### Nothing reaches back (R121) -/

theorem outsideCarrier_carrierPart (s t : State) :
    outsideCarrier (partResult (carrierInstr s) t) = outsideCarrier t := by
  obtain ⟨-, -, -, e⟩ | e := carrierPart_cases s t
  · rw [e]
    cases s.cgStep <;> simp only [stepInstr, resultOf_cgLow, resultOf_cgWait, resultOf_cgHigh] <;> split <;> rfl
  · rw [e]

/-- Outside the carrier a phase gives the same whatever the carrier's elements are. -/
theorem outsideCarrier_phaseResult (p : Phase) (s : State) :
    outsideCarrier (resultOf (phaseInstr p) s) = resultOf (phaseInstr p) (outsideCarrier s) := by
  cases p <;> simp only [phaseInstr, resultOf_idle, resultOf_leaderPulse, resultOf_leaderSpace, resultOf_bitPulse,
    resultOf_bitSpace, resultOf_stopBit, resultOf_gap, timedPhase, apply_ite outsideCarrier] <;> rfl

theorem outsideCarrier_sequencerPart (s t : State) :
    outsideCarrier (partResult (sequencerInstr s) t) = partResult (sequencerInstr s) (outsideCarrier t) := by
  rw [sequencerInstr_eq, partResult_of_if, partResult_of_if, apply_ite outsideCarrier, outsideCarrier_phaseResult]

/-- A host operation sets the carrier's elements, where it does, to constants (R164). -/
theorem outsideCarrier_hostResult (io : Inputs) (s : State) :
    outsideCarrier (resultOf (portInstr io) s) =
      outsideCarrier (resultOf (portInstr io) (outsideCarrier s)) := by
  unfold portInstr
  split <;> simp only [resultOf_activate, resultOf_deactivate, resultOf_send, resultOf_reserved,
    apply_ite outsideCarrier, apply_ite stopEngines] <;> rfl

theorem outsideCarrier_hostPart (h : outsideCarrier t = outsideCarrier u) :
    outsideCarrier (partResult (hostInstr s) t) = outsideCarrier (partResult (hostInstr s) u) := by
  rw [hostInstr_eq, partResult_of_if, partResult_of_if]
  split
  · rw [outsideCarrier_hostResult _ t, h, ← outsideCarrier_hostResult]
  · exact h

theorem outsideCarrier_endCycle (h : outsideCarrier s = outsideCarrier t) :
    outsideCarrier (endCycle s) = outsideCarrier (endCycle t) := by
  have hview (u : State) : outsideCarrier (endCycle u) = outsideCarrier (endCycle (outsideCarrier u)) := rfl
  rw [hview s, h, ← hview t]

/-- A base cycle's effect outside the carrier is decided outside the carrier. -/
theorem outsideCarrier_advance (s : State) :
    outsideCarrier (advance s) = outsideCarrier (advance (outsideCarrier s)) := by
  cases hr : (portInputs s).rst with
  | true =>
    have hr' : (portInputs (outsideCarrier s)).rst = true := hr
    rw [advance_reset hr, advance_reset hr']
    rfl
  | false =>
    have hr' : (portInputs (outsideCarrier s)).rst = false := hr
    have hhost : hostInstr (outsideCarrier s) = hostInstr s := rfl
    have hseq : sequencerInstr (outsideCarrier s) = sequencerInstr s := rfl
    rw [advance_parts hr, advance_parts hr', hhost, hseq]
    refine outsideCarrier_endCycle (outsideCarrier_hostPart ?_)
    rw [outsideCarrier_sequencerPart, outsideCarrier_sequencerPart, outsideCarrier_carrierPart,
      outsideCarrier_carrierPart]
    rfl

/-- Settles O42, by induction on the number of base cycles. -/
theorem carrierNeverReachesBack : Obligations.CarrierNeverReachesBack := by
  intro n
  induction n with
  | zero => exact fun _ _ h => h
  | succ n ih =>
    intro s t h
    refine ih (advance s) (advance t) ?_
    rw [outsideCarrier_advance s, h, ← outsideCarrier_advance t]

end Sys2Proof.Machine
end

section
/-!
PROOFS. The carrier on the pin (spec/40_carrier_generator.md R114 to R120).

While the engines may step, the carrier is one countdown: `waitDelay`, the base cycles to the carrier clock at which
CG_WAIT next tests the Signal. At 0 it is reloaded with 49 by a `CLEARED` Signal and with 4 by a `SET` one, and the pin
is high while it is at least 25. The tail after a turn-off, the square wave and the number of high intervals are
arithmetic on it.
-/

namespace Sys2Proof.Machine

variable {s t : State} {v : Signal}

/-! ### Base cycles in which the engines may step -/

/-- No reset comes in this base cycle, and the engines may step in it (R116, R183). -/
structure EnginesRun (s : State) : Prop where
  noReset : (portInputs s).rst = false
  active  : s.active = true
  noDeact : deactNow s = false

/-- A block that is active before and after a base cycle had neither a reset nor a DEACTIVATE in it. -/
theorem enginesRun_of_active (ha : s.active = true) (hnext : (advance s).active = true) : EnginesRun s := by
  have hr : (portInputs s).rst = false := Bool.eq_false_iff.2 fun hr => by simp [advance_reset hr] at hnext
  refine ⟨hr, ha, Bool.eq_false_iff.2 fun hd => ?_⟩
  obtain ⟨hstopped, -⟩ := advance_of_deactivate hr hd
  exact absurd (hnext.symm.trans hstopped) (by decide)

/-- For the next `n` base cycles the engines run with the Signal at one value. -/
def Gated (v : Signal) (n : Nat) (s : State) : Prop := ∀ k, k < n → (after k s).sig = v ∧ EnginesRun (after k s)

theorem gated_succ {n : Nat} (h : Gated v (n + 1) s) : s.sig = v ∧ EnginesRun s ∧ Gated v n (advance s) :=
  ⟨(h 0 n.succ_pos).1, (h 0 n.succ_pos).2, fun k hk => h (k + 1) (Nat.succ_lt_succ hk)⟩

theorem Gated.mono {m n : Nat} (h : Gated v n s) (hle : m ≤ n) : Gated v m s :=
  fun k hk => h k (Nat.lt_of_lt_of_le hk hle)

theorem gated_of_active {n : Nat} (ha : ∀ k, k ≤ n → (after k s).active = true)
    (hsig : ∀ k, k < n → (after k s).sig = v) : Gated v n s := by
  refine fun k hk => ⟨hsig k hk, enginesRun_of_active (ha k hk.le) ?_⟩
  rw [← after_succ']
  exact ha (k + 1) hk

/-! ### The countdown -/

/-- The base cycles to the next carrier clock. -/
def clockDelay (s : State) : Nat := (s.params.carPhase.val + 5 - s.carDiv.toNat) % 5

/-- The carrier clocks to be spent before CG_WAIT's own: the rest of the step, and after CG_HIGH the four of CG_LOW. -/
def clocksToWait (s : State) : Nat :=
  match s.cgStep with
  | .low => s.cgCnt.toNat
  | .wait => 0
  | .high => s.cgCnt.toNat + 4

/-- The base cycles to the carrier clock at which CG_WAIT next tests the Signal. -/
def waitDelay (s : State) : Nat := clockDelay s + 5 * clocksToWait s

theorem clockDelay_lt (s : State) : clockDelay s < 5 := Nat.mod_lt _ (by decide)

theorem clockDelay_of_nextClockIn {d : Nat} (h : Inv s) (hd : nextClockIn d s) : clockDelay s = d := by
  obtain ⟨hrange, -⟩ := h.dividers
  simp only [nextClockIn, clockDelay, basePerCar] at *
  omega

theorem carEn_iff_clockDelay (h : Inv s) : carEn s = true ↔ clockDelay s = 0 := by
  obtain ⟨hrange, -⟩ := h.dividers
  have hphase := s.params.carPhase.isLt
  rw [carEn_iff]
  simp only [clockDelay, basePerCar] at *
  omega

theorem clockDelay_advance (h : Inv s) (hr : (portInputs s).rst = false) :
    clockDelay (advance s) = (clockDelay s + 4) % 5 := by
  obtain ⟨hrange, -⟩ := h.dividers
  have hphase := s.params.carPhase.isLt
  simp only [clockDelay, advance_params, advance_carDiv s hr, nextCarDiv_toNat, basePerCar] at *
  omega

theorem clocksToWait_of_sameCarrier (h : SameCarrier s t) : clocksToWait s = clocksToWait t := by
  rw [clocksToWait, h.step, h.count, clocksToWait]

theorem clocksToWait_of_low (hg : s.cgStep = .low) : clocksToWait s = s.cgCnt.toNat := by
  rw [clocksToWait, hg]

theorem clocksToWait_of_wait (hg : s.cgStep = .wait) : clocksToWait s = 0 := by
  rw [clocksToWait, hg]

theorem clocksToWait_of_high (hg : s.cgStep = .high) : clocksToWait s = s.cgCnt.toNat + 4 := by
  rw [clocksToWait, hg]

/-- The invariant's ranges of the count (R32) give each step a range of its own. -/
theorem clocksToWait_cases (h : Inv s) :
    (s.cgStep = .low ∧ 1 ≤ clocksToWait s ∧ clocksToWait s ≤ 4) ∨ (s.cgStep = .wait ∧ clocksToWait s = 0) ∨
    (s.cgStep = .high ∧ 5 ≤ clocksToWait s ∧ clocksToWait s ≤ 9) := by
  obtain ⟨hlow, -, hhigh⟩ := h.step
  cases hg : s.cgStep with
  | low =>
    obtain ⟨hpos, hle⟩ := hlow hg
    rw [clocksToWait_of_low hg]
    exact .inl ⟨rfl, by bv_omega⟩
  | wait => exact .inr (.inl ⟨rfl, clocksToWait_of_wait hg⟩)
  | high =>
    obtain ⟨hpos, hle⟩ := hhigh hg
    rw [clocksToWait_of_high hg]
    exact .inr (.inr ⟨rfl, by bv_omega⟩)

/-- The countdown tells the step: CG_WAIT below 5, CG_HIGH from 25 on, CG_LOW between. -/
theorem waitDelay_cases (h : Inv s) :
    (s.cgStep = .wait ∧ waitDelay s < 5) ∨ (s.cgStep = .low ∧ 5 ≤ waitDelay s ∧ waitDelay s < 25) ∨
    (s.cgStep = .high ∧ 25 ≤ waitDelay s ∧ waitDelay s < 50) := by
  have hclock := clockDelay_lt s
  unfold waitDelay
  obtain ⟨hg, hpos, hle⟩ | ⟨hg, hzero⟩ | ⟨hg, hpos, hle⟩ := clocksToWait_cases h
  · exact .inr (.inl ⟨hg, by omega⟩)
  · exact .inl ⟨hg, by omega⟩
  · exact .inr (.inr ⟨hg, by omega⟩)

theorem waitDelay_lt (h : Inv s) : waitDelay s < 50 := by
  obtain ⟨-, hlt⟩ | ⟨-, -, hlt⟩ | ⟨-, -, hlt⟩ := waitDelay_cases h <;> omega

theorem cgStep_wait_iff (h : Inv s) : s.cgStep = .wait ↔ waitDelay s < 5 := by
  obtain ⟨hg, hlt⟩ | ⟨hg, hge, -⟩ | ⟨hg, hge, -⟩ := waitDelay_cases h <;> simp [hg] <;> omega

theorem cgStep_high_iff (h : Inv s) : s.cgStep = .high ↔ 25 ≤ waitDelay s := by
  obtain ⟨hg, hlt⟩ | ⟨hg, -, hlt⟩ | ⟨hg, hge, -⟩ := waitDelay_cases h <;> simp [hg] <;> omega

theorem waitDelay_of_wait (hg : s.cgStep = .wait) : waitDelay s = clockDelay s := by
  rw [waitDelay, clocksToWait_of_wait hg]
  rfl

/-! ### One base cycle of the countdown -/

theorem clocksToWait_cgLow (hg : s.cgStep = .low) (hpos : 1 ≤ clocksToWait s) :
    clocksToWait (resultOf .cgLow s) = clocksToWait s - 1 := by
  rw [clocksToWait_of_low hg] at *
  rw [resultOf_cgLow]
  split
  · next hc =>
    rw [stepCounting_iff] at hc
    rw [clocksToWait_of_low (by simpa using hg), drivePin_cgCnt, countClock_cgCnt]
    bv_omega
  · next hc =>
    rw [stepCounting_iff] at hc
    rw [clocksToWait_of_wait (by simp)]
    bv_omega

theorem clocksToWait_cgWait (hg : s.cgStep = .wait) :
    clocksToWait (resultOf .cgWait s) = if s.sig = .cleared then 9 else 0 := by
  rw [resultOf_cgWait]
  split
  · next hsig =>
    rw [if_pos ((signalCleared_iff s).1 hsig)]
    rfl
  · next hsig => rw [if_neg (mt (signalCleared_iff s).2 hsig), clocksToWait_of_wait hg]

theorem clocksToWait_cgHigh (hg : s.cgStep = .high) (hpos : 5 ≤ clocksToWait s) :
    clocksToWait (resultOf .cgHigh s) = clocksToWait s - 1 := by
  rw [clocksToWait_of_high hg] at *
  rw [resultOf_cgHigh]
  split
  · next hc =>
    rw [stepCounting_iff] at hc
    rw [clocksToWait_of_high (by simpa using hg), countClock_cgCnt]
    bv_omega
  · next hc =>
    rw [stepCounting_iff] at hc
    rw [clocksToWait_of_low (by simp), drivePin_cgCnt, enterStep_cgCnt]
    bv_omega

/-- One carrier clock: the steps run out to CG_WAIT's test, and a `CLEARED` Signal begins another round (R114). -/
theorem clocksToWait_stepResult (h : Inv s) :
    clocksToWait (resultOf (stepInstr s.cgStep) s) =
      if clocksToWait s = 0 then (if s.sig = .cleared then 9 else 0) else clocksToWait s - 1 := by
  obtain ⟨hg, hpos, -⟩ | ⟨hg, hzero⟩ | ⟨hg, hpos, -⟩ := clocksToWait_cases h
  · rw [hg, stepInstr, clocksToWait_cgLow hg hpos, if_neg (by omega)]
  · rw [hg, stepInstr, clocksToWait_cgWait hg, if_pos hzero]
  · rw [hg, stepInstr, clocksToWait_cgHigh hg hpos, if_neg (by omega)]

theorem carrierPart_of_clock (hrun : EnginesRun s) (hclock : carEn s = true) :
    partResult (carrierInstr s) s = resultOf (stepInstr s.cgStep) s := by
  rw [carrierInstr_eq, enginesGo_iff.2 ⟨hrun.active, hrun.noDeact⟩, hclock]
  rfl

theorem carrierPart_of_no_clock (hclock : carEn s = false) : partResult (carrierInstr s) s = s := by
  rw [carrierInstr_eq, hclock, Bool.and_false]
  rfl

/-- Between carrier clocks the carrier's elements rest, and at a clock its step runs. -/
theorem advance_sameCarrier_of_run (h : Inv s) (hrun : EnginesRun s) :
    SameCarrier (advance s) (if clockDelay s = 0 then resultOf (stepInstr s.cgStep) s else s) := by
  have hsame := advance_sameCarrier hrun.noReset hrun.noDeact
  split
  · next hclock => rwa [carrierPart_of_clock hrun ((carEn_iff_clockDelay h).2 hclock)] at hsame
  · next hclock =>
    rwa [carrierPart_of_no_clock (Bool.eq_false_iff.2 (mt (carEn_iff_clockDelay h).1 hclock))] at hsame

/-- THE COUNTDOWN, one base cycle. -/
theorem waitDelay_advance (h : Inv s) (hrun : EnginesRun s) :
    waitDelay (advance s) =
      if waitDelay s = 0 then (if s.sig = .cleared then 49 else 4) else waitDelay s - 1 := by
  have hlt := clockDelay_lt s
  have hsame := clocksToWait_of_sameCarrier (advance_sameCarrier_of_run h hrun)
  rw [waitDelay, clockDelay_advance h hrun.noReset, hsame, waitDelay]
  by_cases hclock : clockDelay s = 0
  · simp only [if_pos hclock, clocksToWait_stepResult h]
    split_ifs <;> omega
  · simp only [if_neg hclock]
    rw [if_neg (by omega)]
    omega

/-! ### The countdown over a stretch of one Signal -/

theorem waitDelay_after_cleared {n : Nat} (h : Inv s) (hg : Gated .cleared n s) :
    waitDelay (after n s) = (waitDelay s + 49 * n) % 50 := by
  induction n generalizing s with
  | zero => exact (Nat.mod_eq_of_lt (waitDelay_lt h)).symm
  | succ n ih =>
    obtain ⟨hsig, hrun, hlater⟩ := gated_succ hg
    rw [after_succ, ih (advance_inv h) hlater, waitDelay_advance h hrun, if_pos hsig]
    split <;> omega

/-- While the Signal is `SET` the countdown runs out and then stays below a carrier clock's period. -/
theorem waitDelay_after_set {n : Nat} (h : Inv s) (hg : Gated .set n s) :
    waitDelay (after n s) ≤ max 4 (waitDelay s - n) := by
  induction n generalizing s with
  | zero => exact le_max_right _ _
  | succ n ih =>
    obtain ⟨hsig, hrun, hlater⟩ := gated_succ hg
    have hnext := waitDelay_advance h hrun
    have hrest := ih (advance_inv h) hlater
    rw [if_neg (show s.sig ≠ .cleared by simp [hsig])] at hnext
    rw [after_succ]
    split at hnext <;> omega

/-! ### The pin -/

/-- The pin is high in CG_HIGH alone: so it is but for the first low clocks after a DEACTIVATE left it high (R116). -/
def PinFollowsStep (s : State) : Prop := s.pin = .high ↔ s.cgStep = .high

theorem pin_low_of_wait (h : Inv s) (hg : s.cgStep = .wait) : s.pin = .low := by
  obtain ⟨-, hhigh⟩ := h.pin
  cases hp : s.pin with
  | low => rfl
  | high => simpa [hg] using hhigh hp

theorem pinFollowsStep_of_not_low (h : Inv s) (hg : s.cgStep ≠ .low) : PinFollowsStep s := by
  obtain ⟨hstep, hpin⟩ := h.pin
  refine ⟨fun hp => ?_, hstep⟩
  obtain hhigh | ⟨hlow, -⟩ := hpin hp
  · exact hhigh
  · exact absurd hlow hg

theorem pinFollowsStep_stepResult (h : Inv s) : PinFollowsStep (resultOf (stepInstr s.cgStep) s) := by
  cases hg : s.cgStep with
  | low =>
    rw [stepInstr, resultOf_cgLow]
    split <;> simp [PinFollowsStep, hg]
  | wait =>
    rw [stepInstr, resultOf_cgWait]
    split
    · simp [PinFollowsStep]
    · exact pinFollowsStep_of_not_low h (by simp [hg])
  | high =>
    have hpin : s.pin = .high := h.pin.1 hg
    rw [stepInstr, resultOf_cgHigh]
    split <;> simp [PinFollowsStep, hg, hpin]

theorem pinFollowsStep_of_sameCarrier (h : SameCarrier s t) (ht : PinFollowsStep t) : PinFollowsStep s := by
  rwa [PinFollowsStep, h.pin, h.step]

/-- The first carrier clock brings the pin in step, and it stays so. -/
theorem pinFollowsStep_advance (h : Inv s) (hrun : EnginesRun s) (hnow : clockDelay s = 0 ∨ PinFollowsStep s) :
    PinFollowsStep (advance s) := by
  refine pinFollowsStep_of_sameCarrier (advance_sameCarrier_of_run h hrun) ?_
  split
  · exact pinFollowsStep_stepResult h
  · next hclock => exact hnow.resolve_left hclock

theorem pinFollowsStep_after {n : Nat} (h : Inv s) (hg : Gated v n s) (hnow : clockDelay s < n ∨ PinFollowsStep s) :
    PinFollowsStep (after n s) := by
  induction n generalizing s with
  | zero => exact hnow.resolve_left (Nat.not_lt_zero _)
  | succ n ih =>
    obtain ⟨-, hrun, hlater⟩ := gated_succ hg
    refine ih (advance_inv h) hlater ?_
    by_cases hdone : clockDelay s = 0 ∨ PinFollowsStep s
    · exact .inr (pinFollowsStep_advance h hrun hdone)
    · rw [not_or] at hdone
      have hclock := hnow.resolve_right hdone.2
      rw [clockDelay_advance h hrun.noReset]
      omega

/-- Settles O56: the countdown starts below 50 and is below 5 after 45 base cycles. -/
theorem engineParksWhileTheSignalIsSet : Obligations.EngineParksWhileTheSignalIsSet := by
  intro s h ha hsig
  have hinv : Inv (after 45 s) := after_inv 45 h
  have hend := waitDelay_after_set h (gated_of_active ha hsig)
  have hstart := waitDelay_lt h
  have hwait : (after 45 s).cgStep = .wait := (cgStep_wait_iff hinv).2 (by omega)
  exact ⟨hwait, pin_low_of_wait hinv hwait⟩

/-- Settles O57: after 25 base cycles the countdown is below 25 and a carrier clock has brought the pin in step. -/
theorem pinIsLowWhileTheSignalIsSet : Obligations.PinIsLowWhileTheSignalIsSet := by
  intro s h ha hsig
  have hgated := gated_of_active ha hsig
  have hend := waitDelay_after_set h hgated
  have hstart := waitDelay_lt h
  have hclock := clockDelay_lt s
  have hnotHigh := mt (cgStep_high_iff (after_inv 25 h)).1 (by omega)
  have hpin := mt (pinFollowsStep_after h hgated (.inl (by omega))).1 hnotHigh
  cases hp : (after 25 s).pin with
  | low => rfl
  | high => exact absurd hp hpin

/-- Settles O58: in base cycle `v` the countdown stands at `d - v` modulo 50. -/
theorem pinIsASquareWaveWhileTheSignalIsCleared : Obligations.PinIsASquareWaveWhileTheSignalIsCleared := by
  intro d n s h hg hd ha hsig v hfrom hto
  have hgated : Gated .cleared v s :=
    (gated_of_active ha fun k hk => hsig k (Nat.le_of_lt_succ hk)).mono hto
  have hfollows := pinFollowsStep_after h hgated (.inr (pinFollowsStep_of_not_low h (by simp [hg])))
  obtain ⟨hd5, -⟩ := id hd
  rw [PinFollowsStep, cgStep_high_iff (after_inv v h), waitDelay_after_cleared h hgated, waitDelay_of_wait hg,
    clockDelay_of_nextClockIn h hd] at hfollows
  rw [hfollows]
  rw [basePerCar] at hd5
  omega

/-! ### High intervals (R120) -/

/-- The pin rises where the countdown is reloaded by a `CLEARED` Signal. -/
theorem pin_rises_iff (h : Inv s) (hrun : EnginesRun s) :
    (s.pin = .low ∧ (advance s).pin = .high) ↔ (waitDelay s = 0 ∧ s.sig = .cleared) := by
  have hsame := (advance_sameCarrier_of_run h hrun).pin
  constructor
  · rintro ⟨hlow, hhigh⟩
    rw [hsame] at hhigh
    split at hhigh
    · next hclock =>
      obtain ⟨hwait, hsig⟩ := stepResult_pin_high hlow hhigh
      exact ⟨(waitDelay_of_wait hwait).trans hclock, hsig⟩
    · exact absurd (hlow.symm.trans hhigh) (by decide)
  · rintro ⟨hzero, hsig⟩
    have hwait : s.cgStep = .wait := (cgStep_wait_iff h).2 (by omega)
    have hclock : clockDelay s = 0 := (waitDelay_of_wait hwait).symm.trans hzero
    rw [hsame, if_pos hclock, hwait, stepInstr, resultOf_cgWait, if_pos ((signalCleared_iff s).2 hsig)]
    exact ⟨pin_low_of_wait h hwait, rfl⟩

theorem risingEdges_succ {n : Nat} (h : Inv s) (hrun : EnginesRun s) :
    risingEdges (n + 1) s =
      (if waitDelay s = 0 ∧ s.sig = .cleared then 1 else 0) + risingEdges n (advance s) := by
  rw [risingEdges]
  simp only [pin_rises_iff h hrun]

/-- A `CLEARED` Signal begins a high interval at every reload: one each 50 base cycles. -/
theorem risingEdges_of_cleared {n : Nat} (h : Inv s) (hg : Gated .cleared n s) :
    risingEdges n s = (n + 49 - waitDelay s) / 50 := by
  have hlt := waitDelay_lt h
  induction n generalizing s with
  | zero => rw [risingEdges]; omega
  | succ n ih =>
    obtain ⟨hsig, hrun, hlater⟩ := gated_succ hg
    have hinv := advance_inv h
    rw [risingEdges_succ h hrun, ih hinv hlater (waitDelay_lt hinv), waitDelay_advance h hrun, if_pos hsig]
    simp only [hsig, and_true]
    split <;> omega

theorem risingEdges_of_set {n : Nat} (h : Inv s) (hg : Gated .set n s) : risingEdges n s = 0 := by
  induction n generalizing s with
  | zero => rfl
  | succ n ih =>
    obtain ⟨hsig, hrun, hlater⟩ := gated_succ hg
    rw [risingEdges_succ h hrun, ih (advance_inv h) hlater, hsig]
    simp

/-- Settles O59: the first high interval begins `d` base cycles into the pulse. -/
theorem highIntervalsOfAPulse : Obligations.HighIntervalsOfAPulse := by
  intro d m s h hg hd hlt ha hsig
  rw [risingEdges_of_cleared h (gated_of_active ha hsig), waitDelay_of_wait hg,
    clockDelay_of_nextClockIn h hd]
  obtain ⟨hd5, -⟩ := hd
  rw [basePerCar] at hd5
  omega

end Sys2Proof.Machine
end

section
/-!
PROOFS. The frame on the pin (spec/30_encoding.md R89, spec/41_protocol_sequencer.md R131 to R148,
spec/40_carrier_generator.md R120).

The sequencer's half says that a frame sends the symbols of R89 one after another, each for its ticks (`Sends`): before
its last tick a phase only counts, and at its last tick it enters the next symbol's. The carrier's half counts high
intervals along symbols that are sent, with no word about the sequencer.
-/

namespace Sys2Proof.Machine

variable {s t : State} {v : Signal} {w : CodeWord} {b k : Nat} {x y : FrameSymbol} {xs : List FrameSymbol}

/-! ### Stretches of a run, one after the other -/

theorem Gated.append {m n : Nat} (h : Gated v m s) (h' : Gated v n (after m s)) : Gated v (m + n) s := by
  intro k hk
  by_cases hkm : k < m
  · exact h k hkm
  · obtain ⟨d, rfl⟩ := Nat.exists_eq_add_of_le (Nat.le_of_not_lt hkm)
    rw [after_add]
    exact h' d (by omega)

theorem undisturbed_add {m n : Nat} (h : undisturbed (m + n) s) : undisturbed m s ∧ undisturbed n (after m s) := by
  simp only [undisturbed, noReset, noCommand, after_inputs, List.take_add, List.mem_append] at *
  obtain ⟨hreset, hdeact⟩ := h
  exact ⟨⟨fun io hio => hreset io (.inl hio), fun io hio => hdeact io (.inl hio)⟩,
    fun io hio => hreset io (.inr hio), fun io hio => hdeact io (.inr hio)⟩

theorem risingEdges_add (m n : Nat) (s : State) :
    risingEdges (m + n) s = risingEdges m s + risingEdges n (after m s) := by
  induction m generalizing s with
  | zero => rw [Nat.zero_add, risingEdges, Nat.zero_add, after_zero]
  | succ m ih => rw [Nat.succ_add, risingEdges, ih, risingEdges, Nat.add_assoc, after_succ]

/-- An active block that nobody resets or deactivates runs its engines. -/
theorem enginesRun_of_undisturbed {n : Nat} (hu : undisturbed n s) (hk : k < n)
    (ha : (after k s).active = true) : EnginesRun (after k s) := by
  obtain ⟨d, rfl⟩ := Nat.exists_eq_add_of_lt hk
  obtain ⟨-, hlater⟩ := undisturbed_add (m := k) (n := d + 1) hu
  obtain ⟨hr, hd, -⟩ := undisturbed_succ hlater
  exact ⟨hr, ha, hd⟩

/-! ### The symbol in force -/

/-- The sequencer is in a symbol's phase, with so many of its ticks left, at a place in a word: `b` bits of `w` are
still to be drained (R137). -/
structure AtSymbol (x : FrameSymbol) (w : CodeWord) (b : Nat) (s : State) : Prop where
  phase : s.psPhase = x.phase
  sig   : s.sig = x.sig
  ticks : phaseTicksLeft s = x.ticks
  word  : s.qWord = w
  bits  : s.bitsLeft.toNat = b

theorem active_of_view (h : sequencerView s = sequencerView t) : s.active = t.active :=
  (congrArg State.active h :)

theorem sig_of_view (h : sequencerView s = sequencerView t) : s.sig = t.sig :=
  (congrArg State.sig h :)

/-- The symbol in force is the sequencer's business alone. -/
theorem atSymbol_of_view (h : sequencerView s = sequencerView t) (ht : AtSymbol x w b t) : AtSymbol x w b s where
  phase := (congrArg State.psPhase h :).trans ht.phase
  sig := (sig_of_view h).trans ht.sig
  ticks := (congrArg phaseTicksLeft h :).trans ht.ticks
  word := (congrArg State.qWord h :).trans ht.word
  bits := (congrArg (fun u => u.bitsLeft.toNat) h :).trans ht.bits

theorem phaseTicksLeft_of_gap (hp : s.psPhase = .gap) : phaseTicksLeft s =
    s.psCnt.toNat + 140 * (s.gapInner.toNat - 1) + 3500 * (s.gapOuter.toNat - 1) := if_pos hp

theorem phaseTicksLeft_of_not_gap (hp : s.psPhase ≠ .gap) : phaseTicksLeft s = s.psCnt.toNat := if_neg hp

theorem phaseTicksLeft_reloadGapBody (hp : s.psPhase = .gap) (outer : BitVec 2) (inner : BitVec 5) :
    phaseTicksLeft (reloadGapBody (setGapLoops s outer inner)) =
      140 + 140 * (inner.toNat - 1) + 3500 * (outer.toNat - 1) := if_pos hp

/-! ### Before its last tick a phase counts (R131, R145) -/

theorem phaseTicksLeft_countTick (hc : 1#9 < s.psCnt) : phaseTicksLeft (countTick s) = phaseTicksLeft s - 1 := by
  have hcount : (s.psCnt - 1#9).toNat = s.psCnt.toNat - 1 := by bv_omega
  have hpos : 1 ≤ s.psCnt.toNat := by bv_omega
  by_cases hp : s.psPhase = .gap
  · rw [phaseTicksLeft_of_gap hp, phaseTicksLeft_of_gap (s := countTick s) hp, countTick_psCnt, hcount]
    simp only [countTick_gapInner, countTick_gapOuter]
    omega
  · rw [phaseTicksLeft_of_not_gap hp, phaseTicksLeft_of_not_gap (s := countTick s) hp, countTick_psCnt, hcount]

theorem countTick_atSymbol {p : Phase} (hc : 1#9 < s.psCnt) (hat : AtSymbol ⟨p, v, k + 2⟩ w b s) :
    AtSymbol ⟨p, v, k + 1⟩ w b (countTick s) :=
  ⟨hat.phase, hat.sig, by rw [phaseTicksLeft_countTick hc, hat.ticks]; rfl, hat.word, hat.bits⟩

/-- At the end of a body of the Gap that is not its last the loops begin another. -/
theorem gapBody_last_atSymbol (h : Inv s) (hc : ¬ 1#9 < s.psCnt) (hat : AtSymbol ⟨.gap, v, k + 2⟩ w b s) :
    AtSymbol ⟨.gap, v, k + 1⟩ w b (resultOf .gap s) := by
  obtain ⟨hp, hsig, hticks, hword, hbits⟩ := hat
  obtain ⟨houter, houterMax, hinner, hinnerMax⟩ := h.gap.2 hp
  have hcount : s.psCnt.toNat = 1 := by
    have hpos := h.phase.1 (by simp [hp])
    bv_omega
  rw [phaseTicksLeft_of_gap hp, hcount] at hticks
  rw [resultOf_gap, timedPhase_of_last _ hc]
  split
  · next hloop =>
    rw [innerLoopCounting_iff] at hloop
    refine ⟨hp, hsig, ?_, hword, hbits⟩
    rw [phaseTicksLeft_reloadGapBody hp]
    bv_omega
  · next hinnerDone =>
    rw [innerLoopCounting_iff] at hinnerDone
    split
    · next hloop =>
      rw [outerLoopCounting_iff] at hloop
      refine ⟨hp, hsig, ?_, hword, hbits⟩
      rw [phaseTicksLeft_reloadGapBody hp]
      bv_omega
    · next houterDone =>
      rw [outerLoopCounting_iff] at houterDone
      bv_omega

theorem phaseResult_before_last {p : Phase} (h : Inv s) (hp : p ≠ .idle) (hat : AtSymbol ⟨p, v, k + 2⟩ w b s) :
    AtSymbol ⟨p, v, k + 1⟩ w b (resultOf (phaseInstr p) s) := by
  by_cases hc : 1#9 < s.psCnt
  · have hcounts : resultOf (phaseInstr p) s = countTick s := by
      cases p with
      | idle => exact absurd rfl hp
      | leaderPulse | leaderSpace | bitPulse | bitSpace | stopBit | gap => exact timedPhase_of_counting _ hc
    rw [hcounts]
    exact countTick_atSymbol hc hat
  · by_cases hg : p = .gap
    · subst hg
      exact gapBody_last_atSymbol h hc hat
    · have hticks := hat.ticks
      rw [phaseTicksLeft_of_not_gap (hat.phase ▸ hg)] at hticks
      exact absurd (show 1#9 < s.psCnt by bv_omega) hc

/-! ### At its last tick a phase enters the next symbol (R132 to R146) -/

theorem psCnt_last {p : Phase} (hat : AtSymbol ⟨p, v, 1⟩ w b s) : ¬ 1#9 < s.psCnt := by
  have hticks := hat.ticks
  unfold phaseTicksLeft at hticks
  split at hticks <;> bv_omega

theorem enterPhase_atSymbol {p : Phase} {n : BitVec 9} (hp : p ≠ .gap) (hsig : s.sig = v) (hn : n.toNat = k)
    (hword : s.qWord = w) (hbits : s.bitsLeft.toNat = b) : AtSymbol ⟨p, v, k⟩ w b (enterPhase s p n) :=
  ⟨rfl, hsig, (phaseTicksLeft_of_not_gap (s := enterPhase s p n) hp).trans hn, hword, hbits⟩

theorem leaderPulse_last (hat : AtSymbol ⟨.leaderPulse, v, 1⟩ w b s) :
    AtSymbol ⟨.leaderSpace, .set, 225⟩ w b (resultOf .leaderPulse s) := by
  rw [resultOf_leaderPulse, timedPhase_of_last _ (psCnt_last hat)]
  exact enterPhase_atSymbol (by decide) rfl rfl hat.word hat.bits

theorem leaderSpace_last (hat : AtSymbol ⟨.leaderSpace, v, 1⟩ w b s) :
    AtSymbol ⟨.bitPulse, .cleared, 28⟩ w b (resultOf .leaderSpace s) := by
  rw [resultOf_leaderSpace, timedPhase_of_last _ (psCnt_last hat)]
  exact enterPhase_atSymbol (by decide) rfl rfl hat.word hat.bits

/-- The space after a pulse has the length of the bit that the serializer stands at. -/
theorem bitPulse_last {n : Nat} (h : Inv s) (hat : AtSymbol ⟨.bitPulse, v, 1⟩ w (n + 1) s) :
    AtSymbol ⟨.bitSpace, .set, if w.getLsbD (31 - n) then 84 else 28⟩ w n (resultOf .bitPulse s) := by
  obtain ⟨hp, -, -, rfl, hbits⟩ := id hat
  obtain ⟨-, hrange, -⟩ := h.bits
  obtain ⟨hpos, hle⟩ := hrange hp
  have hplace := h.serializer.1 (by simp [hp])
  have hdrained : (s.bitsLeft - 1#6).toNat = n := by bv_omega
  rw [resultOf_bitPulse, timedPhase_of_last _ (psCnt_last hat), nextBit_eq_getLsbD hpos hle hplace, hdrained]
  refine enterPhase_atSymbol (by decide) rfl ?_ rfl hdrained
  cases s.qWord.getLsbD (31 - n) <;> rfl

theorem bitSpace_last_of_more {n : Nat} (hat : AtSymbol ⟨.bitSpace, v, 1⟩ w (n + 1) s) :
    AtSymbol ⟨.bitPulse, .cleared, 28⟩ w (n + 1) (resultOf .bitSpace s) := by
  have hmore : ¬ outputRegisterEmpty s = true := fun he => by
    have hbits := hat.bits
    rw [(outputRegisterEmpty_iff s).1 he] at hbits
    exact absurd hbits (by simp)
  rw [resultOf_bitSpace, timedPhase_of_last _ (psCnt_last hat), if_neg hmore]
  exact enterPhase_atSymbol (by decide) rfl rfl hat.word hat.bits

theorem bitSpace_last_of_done (hat : AtSymbol ⟨.bitSpace, v, 1⟩ w 0 s) :
    AtSymbol ⟨.stopBit, .cleared, 28⟩ w 0 (resultOf .bitSpace s) := by
  have hdone : outputRegisterEmpty s = true := (outputRegisterEmpty_iff s).2 (BitVec.eq_of_toNat_eq hat.bits)
  rw [resultOf_bitSpace, timedPhase_of_last _ (psCnt_last hat), if_pos hdone]
  exact enterPhase_atSymbol (by decide) rfl rfl hat.word hat.bits

theorem stopBit_last (hat : AtSymbol ⟨.stopBit, v, 1⟩ w b s) :
    AtSymbol ⟨.gap, .set, 7000⟩ w b (resultOf .stopBit s) := by
  rw [resultOf_stopBit, timedPhase_of_last _ (psCnt_last hat)]
  exact ⟨rfl, rfl, rfl, hat.word, hat.bits⟩

theorem gap_last (h : Inv s) (hat : AtSymbol ⟨.gap, v, 1⟩ w b s) :
    AtSymbol ⟨.idle, v, 0⟩ w b (resultOf .gap s) := by
  obtain ⟨hp, hsig, hticks, hword, hbits⟩ := id hat
  obtain ⟨houter, -, hinner, -⟩ := h.gap.2 hp
  have hpos := h.phase.1 (by simp [hp])
  rw [phaseTicksLeft_of_gap hp] at hticks
  have hinnerDone : ¬ innerLoopCounting s = true := by rw [innerLoopCounting_iff]; bv_omega
  have houterDone : ¬ outerLoopCounting s = true := by rw [outerLoopCounting_iff]; bv_omega
  rw [resultOf_gap, timedPhase_of_last _ (psCnt_last hat), if_neg hinnerDone, if_neg houterDone]
  exact ⟨rfl, hsig, rfl, hword, hbits⟩

/-! ### Symbols are sent one after the other -/

/-- The first base cycle of a tick period of an active block that is at a symbol. -/
structure Sending (x : FrameSymbol) (w : CodeWord) (b : Nat) (s : State) : Prop where
  inv    : Inv s
  active : s.active = true
  period : nextTickIn 37 s
  place  : AtSymbol x w b s

/-- A tick period of a timed phase holds the Signal and ends with the phase run once. -/
theorem tickPeriod_of_sending {b' : Nat} (hs : Sending x w b s) (hp : x.phase ≠ .idle) (hu : undisturbed 38 s)
    (hplace : AtSymbol y w b' (resultOf (phaseInstr x.phase) s)) :
    Gated x.sig 38 s ∧ Sending y w b' (after 38 s) := by
  have hphase := hs.place.phase
  obtain ⟨hstays, hruns, hperiod⟩ :=
    nextTick_runs_phase hs.inv hs.active (hs.inv.slot (hphase ▸ hp)) hs.period hu
  rw [← sequencerView_phaseResult, hphase, show 37 + 1 = 38 from rfl] at hruns
  rw [show 37 + 1 = 38 from rfl] at hperiod
  refine ⟨fun k hk => ?_, after_inv 38 hs.inv, ?_, hperiod, atSymbol_of_view hruns hplace⟩
  · have hview := hstays k (by omega)
    have hactive : (after k s).active = true := (active_of_view hview).trans hs.active
    exact ⟨(sig_of_view hview).trans hs.place.sig, enginesRun_of_undisturbed hu hk hactive⟩
  · exact (active_of_view hruns).trans ((phaseResult_active s _).trans hs.active)

/-- A symbol holds the Signal for its ticks, and then the symbol is in force that its phase's last tick enters. -/
theorem symbol_sent {p : Phase} {b' : Nat} (hs : Sending ⟨p, v, k + 1⟩ w b s) (hp : p ≠ .idle)
    (hu : undisturbed (38 * (k + 1)) s)
    (hlast : ∀ t, Inv t → AtSymbol ⟨p, v, 1⟩ w b t → AtSymbol y w b' (resultOf (phaseInstr p) t)) :
    Gated v (38 * (k + 1)) s ∧ Sending y w b' (after (38 * (k + 1)) s) := by
  induction k generalizing s with
  | zero => exact tickPeriod_of_sending hs hp hu (hlast s hs.inv hs.place)
  | succ k ih =>
    have hsplit : 38 * (k + 1 + 1) = 38 + 38 * (k + 1) := by omega
    rw [hsplit] at hu ⊢
    obtain ⟨hnow, hlater⟩ := undisturbed_add hu
    obtain ⟨hgated, hnext⟩ := tickPeriod_of_sending hs hp hnow (phaseResult_before_last hs.inv hp hs.place)
    obtain ⟨hgated', hend⟩ := ih hnext hlater
    rw [after_add]
    exact ⟨hgated.append hgated', hend⟩

/-- The symbols are on the Signal one after the other, each for its ticks, while the engines run. -/
def Sends : List FrameSymbol → State → Prop
  | [], _ => True
  | x :: xs, s => Gated x.sig (38 * x.ticks) s ∧ Sends xs (after (38 * x.ticks) s)

/-- A symbol is sent, and the ones that follow are, if its phase's last tick enters the next one. -/
theorem sends_cons {p : Phase} {n b' : Nat} (hs : Sending ⟨p, v, n⟩ w b s) (hp : p ≠ .idle) (hn : 0 < n)
    (hu : undisturbed (38 * ticksOf (⟨p, v, n⟩ :: xs)) s)
    (hlast : ∀ t, Inv t → AtSymbol ⟨p, v, 1⟩ w b t → AtSymbol y w b' (resultOf (phaseInstr p) t))
    (hrest : ∀ t, Sending y w b' t → undisturbed (38 * ticksOf xs) t → Sends xs t) :
    Sends (⟨p, v, n⟩ :: xs) s := by
  obtain ⟨k, rfl⟩ := Nat.exists_eq_add_one.2 hn
  rw [ticksOf, Nat.mul_add] at hu
  obtain ⟨hnow, hlater⟩ := undisturbed_add hu
  obtain ⟨hgated, hnext⟩ := symbol_sent hs hp hnow hlast
  exact ⟨hgated, hrest _ hnext hlater⟩

/-- The two symbols after a frame's bits. -/
def frameTail : List FrameSymbol := [⟨.stopBit, .cleared, 28⟩, ⟨.gap, .set, 7000⟩]

theorem frameSymbols_eq (w : CodeWord) : frameSymbols w =
    ⟨.leaderPulse, .cleared, 450⟩ :: ⟨.leaderSpace, .set, 225⟩ :: (bitPairs w 0 32 ++ frameTail) := rfl

theorem bitPairs_succ_append (w : CodeWord) (i n : Nat) (xs : List FrameSymbol) : bitPairs w i (n + 1) ++ xs =
    ⟨.bitPulse, .cleared, 28⟩ :: ⟨.bitSpace, .set, if w.getLsbD i then 84 else 28⟩ ::
      (bitPairs w (i + 1) n ++ xs) := rfl

theorem sends_frameTail (hs : Sending ⟨.stopBit, .cleared, 28⟩ w b s) (hu : undisturbed (38 * ticksOf frameTail) s) :
    Sends frameTail s :=
  sends_cons hs (by decide) (by decide) hu (fun _ _ => stopBit_last) fun _ hgap hu =>
    sends_cons hgap (by decide) (by decide) hu (fun _ => gap_last) fun _ _ _ => trivial

/-- The pairs of the bits still to be drained, and the frame's end. -/
theorem sends_bitPairs (n : Nat) (hn : n ≤ 31) (hs : Sending ⟨.bitPulse, .cleared, 28⟩ w (n + 1) s)
    (hu : undisturbed (38 * ticksOf (bitPairs w (31 - n) (n + 1) ++ frameTail)) s) :
    Sends (bitPairs w (31 - n) (n + 1) ++ frameTail) s := by
  have hspacePos (c : Bool) : 0 < if c then 84 else 28 := by cases c <;> decide
  induction n generalizing s with
  | zero =>
    exact sends_cons hs (by decide) (by decide) hu (fun _ => bitPulse_last) fun _ hspace hu =>
      sends_cons hspace (by decide) (hspacePos _) hu (fun _ _ => bitSpace_last_of_done) fun _ => sends_frameTail
  | succ n ih =>
    have hnext : 31 - (n + 1) + 1 = 31 - n := by omega
    rw [bitPairs_succ_append, hnext] at hu ⊢
    exact sends_cons hs (by decide) (by decide) hu (fun _ => bitPulse_last) fun _ hspace hu =>
      sends_cons hspace (by decide) (hspacePos _) hu (fun _ _ => bitSpace_last_of_more) fun _ => ih (by omega)

theorem sends_frame (hs : Sending ⟨.leaderPulse, .cleared, 450⟩ w 32 s)
    (hu : undisturbed (38 * ticksOf (frameSymbols w)) s) : Sends (frameSymbols w) s :=
  sends_cons hs (by decide) (by decide) hu (fun _ _ => leaderPulse_last) fun _ hspace hu =>
    sends_cons hspace (by decide) (by decide) hu (fun _ _ => leaderSpace_last) fun _ =>
      sends_bitPairs 31 (by decide)

theorem sending_of_frameBegins (h : Inv s) (hf : frameBegins s) :
    Sending ⟨.leaderPulse, .cleared, 450⟩ s.qWord 32 s := by
  obtain ⟨ha, hp, hcount, hperiod⟩ := hf
  have hsig := h.signal.1 (.inl hp)
  have hbits := h.bits.1 (.inl hp)
  refine ⟨h, ha, hperiod, hp, hsig, ?_, rfl, by rw [hbits]; rfl⟩
  rw [phaseTicksLeft_of_not_gap (by simp [hp]), hcount]
  rfl

/-! ### The length of a frame (R148) -/

theorem ticksOf_append (xs ys : List FrameSymbol) : ticksOf (xs ++ ys) = ticksOf xs + ticksOf ys := by
  induction xs with
  | nil => exact (Nat.zero_add _).symm
  | cons x xs ih => rw [List.cons_append, ticksOf, ih, ticksOf, Nat.add_assoc]

theorem ticksOf_bitPairs (w : CodeWord) (i n : Nat) :
    ticksOf (bitPairs w i n) + 56 * onesBelow w i = 56 * n + 56 * onesBelow w (i + n) := by
  induction n generalizing i with
  | zero => simp [bitPairs, ticksOf]
  | succ n ih =>
    have hlater := ih (i + 1)
    rw [onesBelow, Nat.add_right_comm i 1 n] at hlater
    rw [bitPairs, ticksOf_append, ← Nat.add_assoc i n 1]
    simp only [bitSymbols, ticksOf]
    cases hbit : w.getLsbD i with
    | false => simp only [hbit, Bool.false_eq_true, if_false] at hlater ⊢; omega
    | true => simp only [hbit, if_true] at hlater ⊢; omega

theorem ticksOf_frameSymbols (w : CodeWord) : ticksOf (frameSymbols w) = frameTicks w := by
  have hpairs := ticksOf_bitPairs w 0 32
  rw [onesBelow, Nat.zero_add] at hpairs
  simp only [frameSymbols, ticksOf, ticksOf_append, frameTicks, popcount]
  omega

/-! ### High intervals along the symbols (R120) -/

/-- A pulse begins a high interval each 50 base cycles, and a space after it, of two ticks or more, none: it leaves
the engine waiting. -/
theorem risingEdges_pulse_space {p q : Phase} {m n : Nat} (h : Inv s) (hn : 2 ≤ n)
    (hs : Sends (⟨p, .cleared, m⟩ :: ⟨q, .set, n⟩ :: xs) s) :
    ∃ t, Inv t ∧ waitDelay t ≤ 4 ∧ Sends xs t ∧
      risingEdges (38 * ticksOf (⟨p, .cleared, m⟩ :: ⟨q, .set, n⟩ :: xs)) s =
        (38 * m + 49 - waitDelay s) / 50 + risingEdges (38 * ticksOf xs) t := by
  obtain ⟨hpulse, hspace, hrest⟩ := hs
  have hinv := after_inv (38 * m) h
  have hlt := waitDelay_lt hinv
  have hparks : waitDelay (after (38 * n) (after (38 * m) s)) ≤ _ := waitDelay_after_set hinv hspace
  refine ⟨_, after_inv (38 * n) hinv, hparks.trans (max_le (le_refl 4) (by omega)), hrest, ?_⟩
  simp only [ticksOf, Nat.mul_add, risingEdges_add, risingEdges_of_cleared h hpulse, risingEdges_of_set hinv hspace,
    Nat.zero_add]

theorem risingEdges_bitPairs (i n : Nat) (h : Inv s) (hd : waitDelay s ≤ 4)
    (hs : Sends (bitPairs w i n ++ frameTail) s) :
    risingEdges (38 * ticksOf (bitPairs w i n ++ frameTail)) s = 22 * n + 22 := by
  induction n generalizing i s with
  | zero =>
    obtain ⟨t, -, -, -, hcount⟩ := risingEdges_pulse_space h (by decide) hs
    refine hcount.trans ?_
    simp only [ticksOf, risingEdges]
    omega
  | succ n ih =>
    have hspace : 2 ≤ if w.getLsbD i then 84 else 28 := by split <;> decide
    rw [bitPairs_succ_append] at hs ⊢
    obtain ⟨t, hinv, hparks, hrest, hcount⟩ := risingEdges_pulse_space h hspace hs
    rw [hcount, ih (i + 1) hinv hparks hrest]
    omega

/-- Settles O60: from below 25 on the countdown the leader's pulse has 342 high intervals, and each of the 33 pulses
after it, which find the engine waiting, has 22. -/
theorem frameHas1068HighIntervals : Obligations.FrameHas1068HighIntervals := by
  intro s h hf hstep hu
  have hstart := mt (cgStep_high_iff h).2 hstep
  rw [← ticksOf_frameSymbols] at hu ⊢
  have hsends := sends_frame (sending_of_frameBegins h hf) hu
  rw [frameSymbols_eq] at hsends ⊢
  obtain ⟨t, hinv, hparks, hrest, hcount⟩ := risingEdges_pulse_space h (by decide) hsends
  rw [hcount, risingEdges_bitPairs 0 32 hinv hparks hrest]
  omega

end Sys2Proof.Machine
end

section
/-!
PROOFS. The ProtocolSequencer at one tick (spec/41_protocol_sequencer.md R130 to R146) and its table of control
transfers (R149).
-/

namespace Sys2Proof.Machine

variable {s t : State}

/-! ### The phases (R130 to R146) -/

/-- Settles O18. -/
theorem idleTakesTheWord : Obligations.IdleTakesTheWord := by
  intro s hfull
  rw [exec_eq_resultOf, resultOf_idle, if_pos hfull]
  rfl

/-- Settles O19. -/
theorem idleWaitsForAWord : Obligations.IdleWaitsForAWord := by
  intro s hempty
  rw [exec_eq_resultOf, resultOf_idle, if_neg (by simp [hempty])]

/-- Settles O20: all six are `timedPhase`, whatever their transfers. -/
theorem timedPhasesCount : Obligations.TimedPhasesCount := by
  intro i s hi hc
  simp only [List.mem_cons, List.not_mem_nil, or_false] at hi
  obtain rfl | rfl | rfl | rfl | rfl | rfl := hi <;>
    exact congrArg Host.Outcome.next (timedPhase_of_counting _ hc)

/-- Settles O21. -/
theorem leaderPhasesEnd : Obligations.LeaderPhasesEnd := by
  refine fun s hlast => ⟨?_, ?_⟩
  · rw [exec_eq_resultOf, resultOf_leaderPulse, timedPhase_of_last _ hlast]
    rfl
  · rw [exec_eq_resultOf, resultOf_leaderSpace, timedPhase_of_last _ hlast]
    rfl

/-- Settles O22. -/
theorem bitPulseDrainsOneBit : Obligations.BitPulseDrainsOneBit := by
  intro s hlast
  rw [exec_eq_resultOf, resultOf_bitPulse, timedPhase_of_last _ hlast]
  rfl

/-- Settles O23, by the outcomes of the loop test. -/
theorem bitSpaceTestsTheCount : Obligations.BitSpaceTestsTheCount := by
  intro s hlast
  rw [exec_eq_resultOf, resultOf_bitSpace, timedPhase_of_last _ hlast]
  by_cases hdone : s.bitsLeft = 0#6
  · rw [if_pos ((outputRegisterEmpty_iff s).2 hdone), if_pos hdone]
    rfl
  · rw [if_neg (mt (outputRegisterEmpty_iff s).1 hdone), if_neg hdone]
    rfl

/-- Settles O24. -/
theorem stopBitEntersTheGap : Obligations.StopBitEntersTheGap := by
  intro s hlast
  rw [exec_eq_resultOf, resultOf_stopBit, timedPhase_of_last _ hlast]
  rfl

/-- Settles O25, by the two loop tests in their order. -/
theorem gapLoopsThenReleases : Obligations.GapLoopsThenReleases := by
  intro s hlast
  rw [exec_eq_resultOf, resultOf_gap, timedPhase_of_last _ hlast, ← innerLoopCounting_iff, ← outerLoopCounting_iff]
  refine ⟨fun hinner => ?_, fun hinner houter => ?_, fun hinner houter => ?_⟩
  · rw [if_pos hinner]
    rfl
  · rw [if_neg hinner, if_pos houter]
    rfl
  · rw [if_neg hinner, if_neg houter]
    rfl

/-! ### The table of control transfers (R149) -/

/-- The phase after a tick of an active sequencer, by the table of R149. -/
def nextPhase (s : State) : Phase :=
  match s.psPhase with
  | .idle => if s.qFull then .leaderPulse else .idle
  | .leaderPulse => if s.psCnt = 1#9 then .leaderSpace else .leaderPulse
  | .leaderSpace => if s.psCnt = 1#9 then .bitPulse else .leaderSpace
  | .bitPulse => if s.psCnt = 1#9 then .bitSpace else .bitPulse
  | .bitSpace => if s.psCnt = 1#9 then (if s.bitsLeft = 0#6 then .stopBit else .bitPulse) else .bitSpace
  | .stopBit => if s.psCnt = 1#9 then .gap else .stopBit
  | .gap => if s.psCnt = 1#9 ∧ s.gapInner = 1#5 ∧ s.gapOuter = 1#2 then .idle else .gap

/-- A timed phase with ticks left stays until its count is 1. -/
theorem timedPhase_psPhase (hpos : 1#9 ≤ s.psCnt) (t : State) :
    (timedPhase s t).psPhase = if s.psCnt = 1#9 then t.psPhase else s.psPhase := by
  by_cases hlast : s.psCnt = 1#9
  · rw [timedPhase_of_last t (by simp [hlast]), if_pos hlast]
  · rw [timedPhase_of_counting t (by bv_omega), if_neg hlast, countTick_psPhase]

/-- The Gap is over at the last tick of a body at which both loop counters are 1 (R145, R146). -/
theorem gapResult_psPhase (h : Inv s) (hp : s.psPhase = .gap) : (resultOf .gap s).psPhase =
    if s.psCnt = 1#9 ∧ s.gapInner = 1#5 ∧ s.gapOuter = 1#2 then .idle else .gap := by
  obtain ⟨houter, -, hinner, -⟩ := h.gap.2 hp
  rw [resultOf_gap, timedPhase_psPhase (h.phase.1 (by simp [hp])), hp, ite_and]
  refine if_congr Iff.rfl ?_ rfl
  split
  · next hloop =>
    rw [innerLoopCounting_iff] at hloop
    rw [if_neg (by bv_omega)]
    exact hp
  · next hinnerDone =>
    rw [innerLoopCounting_iff] at hinnerDone
    split
    · next hloop =>
      rw [outerLoopCounting_iff] at hloop
      rw [if_neg (by bv_omega)]
      exact hp
    · next houterDone =>
      rw [outerLoopCounting_iff] at houterDone
      rw [if_pos (by bv_omega)]
      rfl

/-- The phase in force goes where the table says. -/
theorem phaseResult_psPhase (h : Inv s) : (resultOf (phaseInstr s.psPhase) s).psPhase = nextPhase s := by
  have hpos (hp : s.psPhase ≠ .idle) : 1#9 ≤ s.psCnt := h.phase.1 hp
  unfold nextPhase
  cases hp : s.psPhase with
  | idle =>
    rw [phaseInstr, resultOf_idle, apply_ite State.psPhase, hp]
    rfl
  | leaderPulse =>
    rw [phaseInstr, resultOf_leaderPulse, timedPhase_psPhase (hpos (by simp [hp])), hp]
    rfl
  | leaderSpace =>
    rw [phaseInstr, resultOf_leaderSpace, timedPhase_psPhase (hpos (by simp [hp])), hp]
    rfl
  | bitPulse =>
    rw [phaseInstr, resultOf_bitPulse, timedPhase_psPhase (hpos (by simp [hp])), hp]
    rfl
  | bitSpace =>
    rw [phaseInstr, resultOf_bitSpace, timedPhase_psPhase (hpos (by simp [hp])), hp, apply_ite State.psPhase]
    simp only [outputRegisterEmpty_iff]
    rfl
  | stopBit =>
    rw [phaseInstr, resultOf_stopBit, timedPhase_psPhase (hpos (by simp [hp])), hp]
    rfl
  | gap => exact gapResult_psPhase h hp

/-- Of the host's operations DEACTIVATE alone writes the phase (R160, R164). -/
theorem hostPart_psPhase (hd : deactNow s = false) (t : State) :
    (partResult (hostInstr s) t).psPhase = t.psPhase := by
  obtain ⟨hacc, e⟩ | e := hostPart_cases s t
  · rw [e, portInstr]
    split
    · rw [resultOf_activate]
      split <;> rfl
    · next hop => simp [deactNow, hacc, BitVec.eq_of_toNat_eq (y := 1#2) hop] at hd
    · rw [resultOf_send]
      split <;> rfl
    · rfl
  · rw [e]

/-- In a base cycle without reset and DEACTIVATE the phase moves at a tick of an active block, and there by the
table: the carrier's part, which runs before the sequencer's, is out of its view. -/
theorem advance_psPhase (h : Inv s) (hr : (portInputs s).rst = false) (hd : deactNow s = false) :
    (advance s).psPhase = if s.active = true ∧ tickEn s = true then nextPhase s else s.psPhase := by
  have hgo : (enginesGo s && tickEn s) = true ↔ s.active = true ∧ tickEn s = true := by
    simp [enginesGo_iff, hd]
  rw [advance_parts hr, endCycle_psPhase, hostPart_psPhase hd, sequencerInstr_eq, partResult_of_if]
  simp only [hgo]
  split
  · rw [← sequencerView_psPhase, sequencerView_phaseResult, sequencerView_carrierPart, ← sequencerView_phaseResult,
      sequencerView_psPhase, phaseResult_psPhase h]
  · exact carrierPart_psPhase s s

/-- Settles O40: a DEACTIVATE leaves the block inactive and so in IDLE, and without one the table decides. -/
theorem phaseTransfersAreTheTable : Obligations.PhaseTransfersAreTheTable := by
  intro s t h hstep hr
  obtain rfl := advance_of_step hstep
  cases hd : deactNow s with
  | true =>
    obtain ⟨hstopped, -⟩ := advance_of_deactivate hr hd
    obtain ⟨hidle, -⟩ := (advance_inv h).inactive hstopped
    exact hidle
  | false =>
    have hphase := advance_psPhase h hr hd
    rw [if_neg Bool.false_ne_true]
    split
    · next hticks =>
      rw [if_pos hticks, nextPhase] at hphase
      cases hp : s.psPhase <;> simpa only [hp] using hphase
    · next hrests => rwa [if_neg hrests] at hphase

end Sys2Proof.Machine
end

section
/-!
PROOFS. The frame in ticks and in base cycles (spec/30_encoding.md R89, spec/41_protocol_sequencer.md R131, R147, R148,
R153).

A timed phase is one countdown of base cycles to its last tick (`Holding`), at which it enters the next symbol
(`Transfers`). Along the symbols of R89 this gives the symbol in force at every base cycle of a frame.
-/

namespace Sys2Proof.Machine

variable {s t : State} {w : CodeWord} {b b' c n : Nat} {x y : FrameSymbol} {xs : List FrameSymbol}

/-! ### The timeline (R147, R148) -/

theorem onesBelow_le (w : CodeWord) (n : Nat) : onesBelow w n ≤ n := by
  induction n with
  | zero => exact Nat.le_refl 0
  | succ n ih =>
    rw [onesBelow]
    split <;> omega

/-- Settles O48. -/
theorem frameLength : Obligations.FrameLength := by
  intro w
  have hones : popcount w ≤ 32 := onesBelow_le w 32
  refine ⟨ticksOf_frameSymbols w, ?_, ?_⟩ <;> rw [frameTicks] <;> omega

theorem symbolAt_head (hn : n < x.ticks) : symbolAt (x :: xs) n = some x := if_pos hn

theorem symbolAt_tail (x : FrameSymbol) (xs : List FrameSymbol) (n : Nat) :
    symbolAt (x :: xs) (x.ticks + n) = symbolAt xs n := by
  rw [symbolAt, if_neg (by omega), Nat.add_sub_cancel_left]

theorem symbolAt_append (xs ys : List FrameSymbol) (n : Nat) :
    symbolAt (xs ++ ys) (ticksOf xs + n) = symbolAt ys n := by
  induction xs with
  | nil => rw [ticksOf, Nat.zero_add, List.nil_append]
  | cons x xs ih => rw [List.cons_append, ticksOf, Nat.add_assoc, symbolAt_tail, ih]

theorem bitPairs_add (w : CodeWord) (i m n : Nat) : bitPairs w i (m + n) = bitPairs w i m ++ bitPairs w (i + m) n := by
  induction m generalizing i with
  | zero => rw [Nat.zero_add, bitPairs, List.nil_append, Nat.add_zero]
  | succ m ih => rw [Nat.succ_add, bitPairs, ih, bitPairs, List.append_assoc, Nat.add_right_comm, Nat.add_assoc]

/-- Before the pair of pass `i` stand the leader and the pairs of the bits below, which take `pulseTick w i` ticks. -/
theorem frameSymbols_at_pass (w : CodeWord) {i : Nat} (hi : i < 32) :
    ∃ xs ys, frameSymbols w = xs ++ (bitSymbols (w.getLsbD i) ++ ys) ∧ ticksOf xs = pulseTick w i := by
  obtain ⟨k, hk⟩ := Nat.exists_eq_add_of_lt hi
  have hpairs : bitPairs w 0 32 = bitPairs w 0 i ++ (bitSymbols (w.getLsbD i) ++ bitPairs w (i + 1) k) := by
    have hsplit := bitPairs_add w 0 i (k + 1)
    rwa [← Nat.add_assoc, ← hk, Nat.zero_add, bitPairs] at hsplit
  have hticks := ticksOf_bitPairs w 0 i
  rw [onesBelow, Nat.zero_add] at hticks
  refine ⟨⟨.leaderPulse, .cleared, 450⟩ :: ⟨.leaderSpace, .set, 225⟩ :: bitPairs w 0 i,
    bitPairs w (i + 1) k ++ frameTail, ?_, ?_⟩
  · simp only [frameSymbols_eq, hpairs, List.append_assoc, List.cons_append]
  · simp only [ticksOf, pulseTick]
    omega

/-- Settles O49: from the pass's first tick on stand its two symbols. -/
theorem pulsesBeginOnTheTimeline : Obligations.PulsesBeginOnTheTimeline := by
  intro w i hi
  obtain ⟨xs, ys, hframe, hticks⟩ := frameSymbols_at_pass w hi
  rw [hframe, ← hticks]
  refine ⟨fun j hj => ?_, fun j hj => ?_⟩
  · rw [symbolAt_append]
    exact symbolAt_head hj
  · rw [Nat.add_assoc, symbolAt_append]
    exact (symbolAt_tail ⟨.bitPulse, .cleared, 28⟩ _ j).trans (symbolAt_head hj)

/-! ### A timed phase counts down to its last tick (R131, R145) -/

/-- An active block in a timed phase whose last tick comes `c` base cycles later. -/
structure Holding (x : FrameSymbol) (w : CodeWord) (b c : Nat) (s : State) : Prop where
  inv    : Inv s
  active : s.active = true
  timed  : x.phase ≠ .idle
  tick   : nextTickIn (c % 38) s
  place  : AtSymbol ⟨x.phase, x.sig, c / 38 + 1⟩ w b s

theorem Holding.full (hs : Holding x w b c s) : s.qFull = true :=
  hs.inv.slot (hs.place.phase ▸ hs.timed)

/-- A base cycle takes one off the countdown: at a tick the phase runs and a period begins, and elsewhere nothing of
the sequencer's moves. -/
theorem holding_advance (hs : Holding x w b (c + 1) s) (hr : (portInputs s).rst = false) (hd : deactNow s = false) :
    Holding x w b c (advance s) := by
  have hview := sequencerView_advance_of_full hs.inv hs.active hs.full hr hd
  obtain ⟨hinv, hactive, htimed, htick, hplace⟩ := hs
  cases hj : (c + 1) % 38 with
  | zero =>
    have hperiod : c % 38 = 37 := by omega
    have hticks : (c + 1) / 38 = c / 38 + 1 := by omega
    rw [hj] at htick
    rw [hticks] at hplace
    have hrun := phaseResult_before_last hinv htimed hplace
    rw [if_pos (tickEn_of_nextTickIn_zero hinv htick), ← sequencerView_phaseResult, hplace.phase] at hview
    exact ⟨advance_inv hinv, (active_of_view hview).trans ((phaseResult_active s _).trans hactive), htimed,
      hperiod ▸ nextTickIn_advance_of_tick hr htick, atSymbol_of_view hview hrun⟩
  | succ j =>
    have hperiod : c % 38 = j := by omega
    have hticks : (c + 1) / 38 = c / 38 := by omega
    rw [hj] at htick
    rw [hticks] at hplace
    rw [tickEn_of_nextTickIn_succ hinv htick, if_neg Bool.false_ne_true] at hview
    exact ⟨advance_inv hinv, (active_of_view hview).trans hactive, htimed, hperiod ▸ nextTickIn_advance hr htick,
      atSymbol_of_view hview hplace⟩

theorem holding_after (hs : Holding x w b (c + n) s) (hu : undisturbed n s) : Holding x w b c (after n s) := by
  induction n generalizing s with
  | zero => exact hs
  | succ n ih =>
    obtain ⟨hr, hd, hlater⟩ := undisturbed_succ hu
    exact ih (holding_advance hs hr hd) hlater

/-- At the end of the countdown the phase runs for the last time. -/
theorem holding_last (hs : Holding x w b 0 s) (hu : undisturbed 1 s) :
    sequencerView (advance s) = sequencerView (resultOf (phaseInstr s.psPhase) s) := by
  obtain ⟨hr, hd, -⟩ := undisturbed_succ hu
  rw [sequencerView_advance_of_full hs.inv hs.active hs.full hr hd, if_pos (tickEn_of_nextTickIn_zero hs.inv hs.tick),
    ← sequencerView_phaseResult]

theorem phase_of_view (h : sequencerView s = sequencerView t) : s.psPhase = t.psPhase :=
  (congrArg State.psPhase h :)

theorem qFull_of_view (h : sequencerView s = sequencerView t) : s.qFull = t.qFull :=
  (congrArg State.qFull h :)

/-- With no tick left but the one in progress, the table of R149 leaves the phase. -/
theorem nextPhase_ne_of_last (h : Inv s) (hp : s.psPhase ≠ .idle) (hticks : phaseTicksLeft s = 1) :
    nextPhase s ≠ s.psPhase := by
  have hpos := h.phase.1 hp
  by_cases hg : s.psPhase = .gap
  · obtain ⟨houter, -, hinner, -⟩ := h.gap.2 hg
    rw [phaseTicksLeft_of_gap hg] at hticks
    have hdone : s.psCnt = 1#9 ∧ s.gapInner = 1#5 ∧ s.gapOuter = 1#2 := by bv_omega
    simp [nextPhase, hg, hdone]
  · rw [phaseTicksLeft_of_not_gap hg] at hticks
    have hlast : s.psCnt = 1#9 := BitVec.eq_of_toNat_eq hticks
    rw [nextPhase]
    cases hphase : s.psPhase with
    | idle => exact absurd hphase hp
    | gap => exact absurd hphase hg
    | bitSpace => by_cases hdone : s.bitsLeft = 0#6 <;> simp [hlast, hdone]
    | leaderPulse | leaderSpace | bitPulse | stopBit => simp [hlast]

theorem phaseTicksLeft_pos (h : Inv s) (hp : s.psPhase ≠ .idle) : 1 ≤ phaseTicksLeft s := by
  have hpos := h.phase.1 hp
  rw [phaseTicksLeft]
  split <;> bv_omega

/-- Settles O52: until its countdown ends the phase holds, and then its ticks are up. -/
theorem timedPhaseLastsItsTicks : Obligations.TimedPhaseLastsItsTicks := by
  intro j s h ha hp hj hu
  have hpos := phaseTicksLeft_pos h hp
  have hrange : j < 38 := hj.1
  generalize hc : j + 38 * (phaseTicksLeft s - 1) = c at hu ⊢
  have hperiod : c % 38 = j := by omega
  have hticks : phaseTicksLeft s = c / 38 + 1 := by omega
  have hs : Holding ⟨s.psPhase, s.sig, phaseTicksLeft s⟩ s.qWord s.bitsLeft.toNat c s :=
    ⟨h, ha, hp, hperiod ▸ hj, rfl, rfl, hticks, rfl, rfl⟩
  refine ⟨fun k hk => ?_, ?_⟩
  · obtain ⟨d, rfl⟩ := Nat.exists_eq_add_of_le' hk
    rw [Nat.add_comm d, Nat.add_assoc] at hu
    obtain ⟨hnow, -⟩ := undisturbed_add hu
    have hplace := (holding_after hs hnow).place
    exact ⟨hplace.phase, hplace.sig⟩
  · obtain ⟨hbefore, hlastCycle⟩ := undisturbed_add hu
    have hlast : Holding _ _ _ 0 (after c s) := holding_after (by rwa [Nat.zero_add]) hbefore
    have hphase : (after c s).psPhase = s.psPhase := hlast.place.phase
    rw [after_succ', phase_of_view (holding_last hlast hlastCycle), phaseResult_psPhase hlast.inv, ← hphase]
    exact nextPhase_ne_of_last hlast.inv (hphase ▸ hp) hlast.place.ticks

/-! ### The symbols of a frame, one after the other (R89) -/

/-- A symbol at `b` bits of `w` and the symbols after it follow one another by the sequencer's transfers: at the last
tick of each its phase enters the next. -/
inductive Transfers (w : CodeWord) : FrameSymbol → Nat → List FrameSymbol → Prop where
  | last {p v k b} (hp : p ≠ .idle) : Transfers w ⟨p, v, k + 1⟩ b []
  | next {p v k b y b' xs} (hp : p ≠ .idle)
      (henters : ∀ t, Inv t → AtSymbol ⟨p, v, 1⟩ w b t → AtSymbol y w b' (resultOf (phaseInstr p) t))
      (hrest : Transfers w y b' xs) : Transfers w ⟨p, v, k + 1⟩ b (y :: xs)

theorem transfers_stopBit (w : CodeWord) :
    Transfers w ⟨.stopBit, .cleared, 28⟩ 0 [⟨.gap, .set, 7000⟩] :=
  .next (by decide) (fun _ _ => stopBit_last) (.last (b := 0) (by decide))

/-- From the pulse at which `n + 1` bits are still to be drained, to the frame's end. -/
theorem transfers_bitPulse (w : CodeWord) (n : Nat) (hn : n ≤ 31) :
    Transfers w ⟨.bitPulse, .cleared, 28⟩ (n + 1) (⟨.bitSpace, .set, if w.getLsbD (31 - n) then 84 else 28⟩ ::
      (bitPairs w (31 - n + 1) n ++ frameTail)) := by
  have hspace (c : Bool) : ∃ k, (if c then 84 else 28) = k + 1 := by cases c <;> exact ⟨_, rfl⟩
  obtain ⟨k, hk⟩ := hspace (w.getLsbD (31 - n))
  refine .next (by decide) (fun _ => bitPulse_last) ?_
  rw [hk]
  cases n with
  | zero => exact .next (by decide) (fun _ _ => bitSpace_last_of_done) (transfers_stopBit w)
  | succ n =>
    have hnext : 31 - (n + 1) + 1 = 31 - n := by omega
    rw [hnext, bitPairs_succ_append]
    exact .next (by decide) (fun _ _ => bitSpace_last_of_more) (transfers_bitPulse w n (by omega))

theorem transfers_frame (w : CodeWord) : Transfers w ⟨.leaderPulse, .cleared, 450⟩ 32
    (⟨.leaderSpace, .set, 225⟩ :: (bitPairs w 0 32 ++ frameTail)) :=
  .next (by decide) (fun _ _ => leaderPulse_last)
    (.next (by decide) (fun _ _ => leaderSpace_last) (transfers_bitPulse w 31 (by decide)))

theorem holding_of_sending {p : Phase} {v : Signal} {k : Nat} (hs : Sending ⟨p, v, k + 1⟩ w b s) (hp : p ≠ .idle) :
    Holding ⟨p, v, k + 1⟩ w b (38 * k + 37) s := by
  have hperiod : (38 * k + 37) % 38 = 37 := by omega
  have hticks : (38 * k + 37) / 38 = k := by omega
  exact ⟨hs.inv, hs.active, hp, hperiod.symm ▸ hs.period, hticks.symm ▸ hs.place⟩

/-- `n` base cycles into a sequence of symbols the block holds the one in force, whose last tick is no later than the
sequence's. -/
def HoldsInForce (xs : List FrameSymbol) (w : CodeWord) (n : Nat) (s : State) : Prop :=
  ∃ y b c, symbolAt xs (n / 38) = some y ∧ n + c < 38 * ticksOf xs ∧ Holding y w b c (after n s)

theorem holdsInForce_head {p : Phase} {v : Signal} {k : Nat} (hs : Sending ⟨p, v, k + 1⟩ w b s) (hp : p ≠ .idle)
    (hn : n < 38 * (k + 1)) (hu : undisturbed n s) : HoldsInForce (⟨p, v, k + 1⟩ :: xs) w n s := by
  have hstart := holding_of_sending hs hp
  rw [show 38 * k + 37 = 38 * k + 37 - n + n by omega] at hstart
  have hlength : ticksOf (⟨p, v, k + 1⟩ :: xs) = k + 1 + ticksOf xs := rfl
  exact ⟨_, b, _, symbolAt_head (show n / 38 < k + 1 by omega), by omega, holding_after hstart hu⟩

theorem holdsInForce_tail (h : HoldsInForce xs w n (after (38 * x.ticks) s)) :
    HoldsInForce (x :: xs) w (38 * x.ticks + n) s := by
  obtain ⟨y, b, c, hforce, hend, hholds⟩ := h
  refine ⟨y, b, c, ?_, ?_, ?_⟩
  · rwa [Nat.mul_add_div (by decide), symbolAt_tail]
  · rw [ticksOf]
    omega
  · rwa [after_add]

/-- By induction on the symbols: a base cycle is in the first one, or as many cycles into the ones after it as are left
over from the first. -/
theorem holdsInForce_of_transfers (hx : Transfers w x b xs) (hs : Sending x w b s) (hn : n < 38 * ticksOf (x :: xs))
    (hu : undisturbed n s) : HoldsInForce (x :: xs) w n s := by
  induction hx generalizing s n with
  | last hp => exact holdsInForce_head hs hp hn hu
  | @next p v k b y b' xs hp henters _ ih =>
    rcases Nat.lt_or_ge n (38 * (k + 1)) with hhead | htail
    · exact holdsInForce_head hs hp hhead hu
    · obtain ⟨d, rfl⟩ := Nat.exists_eq_add_of_le htail
      obtain ⟨hnow, hlater⟩ := undisturbed_add hu
      obtain ⟨-, hnext⟩ := symbol_sent hs hp hnow henters
      have hlength : ticksOf (⟨p, v, k + 1⟩ :: y :: xs) = k + 1 + ticksOf (y :: xs) := rfl
      exact holdsInForce_tail (x := ⟨p, v, k + 1⟩) (ih hnext (by omega) hlater)

theorem holdsInForce_of_frameBegins (h : Inv s) (hf : frameBegins s) (hn : n < 38 * frameTicks s.qWord)
    (hu : undisturbed n s) : HoldsInForce (frameSymbols s.qWord) s.qWord n s := by
  rw [← ticksOf_frameSymbols] at hn
  exact holdsInForce_of_transfers (transfers_frame s.qWord) (sending_of_frameBegins h hf) hn hu

/-- Settles O53: the frame's symbols follow one another, so the block holds the one in force. -/
theorem frameFollowsTheTimeline : Obligations.FrameFollowsTheTimeline := by
  intro n s h hf hn hu
  obtain ⟨x, b, c, hforce, -, hholds⟩ := holdsInForce_of_frameBegins h hf hn hu
  exact ⟨x, hforce, hholds.place.phase, hholds.place.sig⟩

/-! ### The frame's last tick (R146, R153) -/

theorem symbolAt_last_tick (w : CodeWord) :
    symbolAt (frameSymbols w) (frameTicks w - 1) = some ⟨.gap, .set, 7000⟩ := by
  obtain ⟨xs, hframe⟩ : ∃ xs, frameSymbols w = xs ++ [⟨.gap, .set, 7000⟩] :=
    ⟨⟨.leaderPulse, .cleared, 450⟩ :: ⟨.leaderSpace, .set, 225⟩ :: (bitPairs w 0 32 ++ [⟨.stopBit, .cleared, 28⟩]),
      by simp [frameSymbols]⟩
  have hticks : frameTicks w - 1 = ticksOf xs + 6999 := by
    rw [← ticksOf_frameSymbols, hframe, ticksOf_append]
    rfl
  rw [hticks, hframe, symbolAt_append]
  rfl

/-- A Gap that returns to IDLE releases the slot. -/
theorem gapResult_releases (hp : s.psPhase = .gap) (hidle : (resultOf .gap s).psPhase = .idle) :
    (resultOf .gap s).qFull = false := by
  rw [resultOf_gap] at hidle ⊢
  obtain ⟨-, e⟩ | ⟨-, e⟩ := timedPhase_cases s _
  · rw [e, countTick_psPhase, hp] at hidle
    exact nomatch hidle
  · rw [e] at hidle ⊢
    split at hidle
    · simp [hp] at hidle
    · next hinner =>
      rw [if_neg hinner]
      split at hidle
      · simp [hp] at hidle
      · next houter =>
        rw [if_neg houter]
        rfl

theorem cmdReady_send (s : State) : cmdReady s 2#2 = !s.qFull := rfl

/-- The last base cycle of a frame is the Gap's last tick. -/
theorem holding_gap_last (h : Inv s) (hf : frameBegins s) (hlen : 38 * frameTicks s.qWord = n + 1)
    (hu : undisturbed n s) : ∃ b, Holding ⟨.gap, .set, 7000⟩ s.qWord b 0 (after n s) := by
  obtain ⟨x, b, c, hforce, hend, hholds⟩ := holdsInForce_of_frameBegins h hf (by omega) hu
  rw [ticksOf_frameSymbols] at hend
  have hlast : n / 38 = frameTicks s.qWord - 1 := by omega
  have hnone : c = 0 := by omega
  rw [hlast, symbolAt_last_tick] at hforce
  cases hforce
  exact ⟨b, hnone ▸ hholds⟩

/-- Settles O54: the block holds a symbol in every base cycle of the frame, and so the slot; in the last one the Gap
runs to its end. -/
theorem slotIsHeldForTheWholeFrame : Obligations.SlotIsHeldForTheWholeFrame := by
  intro s h hf hu
  refine ⟨fun n hn => ?_, ?_⟩
  · obtain ⟨d, hd⟩ := Nat.exists_eq_add_of_lt hn
    rw [hd, Nat.add_assoc] at hu
    obtain ⟨hnow, -⟩ := undisturbed_add hu
    obtain ⟨x, b, c, -, -, hholds⟩ := holdsInForce_of_frameBegins h hf hn hnow
    exact ⟨by rw [cmdReady_send, hholds.full]; rfl, hholds.place.word⟩
  · have hpos : 0 < 38 * frameTicks s.qWord := by
      rw [frameTicks]
      omega
    obtain ⟨n, hlen⟩ := Nat.exists_eq_add_one.2 hpos
    rw [hlen] at hu ⊢
    obtain ⟨hbefore, hlastCycle⟩ := undisturbed_add hu
    obtain ⟨b, hgap⟩ := holding_gap_last h hf hlen hbefore
    have hphase : (after n s).psPhase = .gap := hgap.place.phase
    have hidle := gap_last hgap.inv hgap.place
    have hview := holding_last hgap hlastCycle
    rw [hphase] at hview
    rw [after_succ', cmdReady_send, qFull_of_view hview, phase_of_view hview, sig_of_view hview]
    refine ⟨?_, hidle.phase, hidle.sig⟩
    rw [phaseInstr, gapResult_releases hphase hidle.phase]
    rfl

end Sys2Proof.Machine
end

section
/-!
PROOFS. The host's operations ACTIVATE, DEACTIVATE and the reserved code (spec/42_controller_operations.md R162 to
R165, R170, spec/60_exceptions.md R200, R204), and the frame that a DEACTIVATE cuts (R231).

A cut leaves the sequencer waiting in IDLE on an empty slot. Of all that a base cycle can run, only a reset or a SEND
ends that wait or moves the Signal, so the cut frame stays cut.
-/

namespace Sys2Proof.Machine

variable {s t : State} {v : Signal}

/-! ### ACTIVATE (R162, R163) -/

/-- Settles O11, by the platform's answer. -/
theorem activateStartsTheEngines : Obligations.ActivateStartsTheEngines := by
  intro s hok
  rw [exec_eq_resultOf, resultOf_activate, if_pos hok]
  rfl

/-- Settles O12, by the platform's answer. -/
theorem activateTakesConfigError : Obligations.ActivateTakesConfigError := by
  intro s hbad
  rw [exec_eq_resultOf, resultOf_activate, if_neg (by simp [hbad])]
  rfl

/-- Settles O13: an active block is on a platform that takes the command, and `active` is the one element it
writes. -/
theorem activateWhileActiveChangesNothing : Obligations.ActivateWhileActiveChangesNothing := by
  intro s h ha
  obtain ⟨-, -, hrunsOnlyWhereOk⟩ := h.failed
  rw [exec_eq_resultOf, resultOf_activate, if_pos (hrunsOnlyWhereOk ha), startEngines_of_active ha]

/-! ### DEACTIVATE (R164) -/

/-- Settles O14: the slot is released in every phase but IDLE, and the engines are stopped in all. -/
theorem deactivateCancels : Obligations.DeactivateCancels := by
  intro s
  rw [exec_eq_resultOf, resultOf_deactivate]
  by_cases hp : s.psPhase = .idle
  · rw [if_pos hp, if_pos hp]
    rfl
  · rw [if_neg hp, if_neg hp]
    rfl

/-- The engines of an inactive block are as DEACTIVATE leaves them (R42(b), R116, R151). -/
theorem stopEngines_of_inactive (h : Inv s) (ha : s.active = false) : stopEngines s = s := by
  obtain ⟨hphase, hbit, hstep, hclocks⟩ := h.inactive ha
  obtain ⟨hcnt, houter, hinner, hbits, hosr⟩ := h.idle hphase
  cases s
  simp_all [stopEngines]

/-- Settles O16: an inactive block has no frame to cancel, so the slot is kept too. -/
theorem deactivateWhileInactiveChangesNothing : Obligations.DeactivateWhileInactiveChangesNothing := by
  intro s h ha
  obtain ⟨hphase, -⟩ := h.inactive ha
  rw [exec_eq_resultOf, resultOf_deactivate, if_pos hphase, stopEngines_of_inactive h ha]

/-! ### DEACTIVATE in a base cycle (R204) -/

/-- DEACTIVATE's code is ready whatever the slot is, so where it is presented it is accepted (R82). -/
theorem deactNow_of_presents (hp : (portInputs s).presents 1#2) : deactNow s = true := by
  obtain ⟨hvalid, hop⟩ := hp
  simp [deactNow_eq, hvalid, hop]

/-- An accepted DEACTIVATE is the only part of its base cycle that runs. -/
theorem step_of_deactivate (hr : (portInputs s).rst = false) (hd : deactNow s = true) :
    step s = .next (endCycle (resultOf .deactivate s)) := by
  obtain ⟨hacc, hop⟩ := (Bool.and_eq_true _ _).mp hd
  have hhost : hostInstr s = some .deactivate := by
    simp [hostInstr_eq, hacc, portInstr, of_decide_eq_true hop]
  have hseq : sequencerInstr s = none := by simp [sequencerInstr_eq, enginesGo, hd]
  have hcar : carrierInstr s = none := by simp [carrierInstr_eq, enginesGo, hd]
  rw [step_parts hr, hhost, hseq, hcar, partResult_none, partResult_none, partResult_some]

theorem portInputs_of_cons {io : Inputs} {rest : List Inputs} (hio : s.inputs = io :: rest) : portInputs s = io := by
  rw [portInputs, hio, List.headD_cons]

/-- Settles O15: DEACTIVATE runs alone, and the end of the cycle adds the dividers and the inputs to its writes. -/
theorem deactivateBeatsTheEngines : Obligations.DeactivateBeatsTheEngines := by
  intro s io rest hio hr hp
  rw [← portInputs_of_cons hio] at hr hp
  have hwrites := deactivateCancels s
  rw [exec_eq_resultOf, Host.Outcome.next.injEq] at hwrites
  have hrest : s.inputs.tail = rest := by rw [hio, List.tail_cons]
  rw [step_of_deactivate hr (deactNow_of_presents hp), hwrites, ← hrest]
  rfl

/-! ### The reserved code (R170) -/

/-- Settles O17. -/
theorem reservedCodeHasNoEffect : Obligations.ReservedCodeHasNoEffect := by
  intro s
  refine ⟨if_neg (by decide), ?_⟩
  rw [exec_eq_resultOf, resultOf_reserved]

/-! ### A cut frame is never resumed (R165, R231) -/

/-- The sequencer waits in IDLE on an empty slot, with the Signal at `v`. -/
structure WaitsAt (v : Signal) (s : State) : Prop where
  phase : s.psPhase = .idle
  slot  : s.qFull = false
  sig   : s.sig = v

theorem noCommand_succ {op : OpCode} {n : Nat} (h : noCommand op (n + 1) s) :
    ¬ (portInputs s).presents op ∧ noCommand op n (advance s) :=
  forall_inputs_succ (P := fun io => ¬ io.presents op) nofun h

theorem carrierPart_waitsAt (h : WaitsAt v t) : WaitsAt v (partResult (carrierInstr s) t) := by
  obtain ⟨-, -, -, e⟩ | e := carrierPart_cases s t
  · rw [e]
    exact ⟨(stepResult_psPhase t _).trans h.phase, (stepResult_qFull t _).trans h.slot,
      (stepResult_sig t _).trans h.sig⟩
  · rwa [e]

/-- The phase in force is IDLE, which changes nothing while the slot is empty (R130). -/
theorem sequencerPart_waitsAt (hp : s.psPhase = .idle) (h : WaitsAt v t) :
    WaitsAt v (partResult (sequencerInstr s) t) := by
  obtain ⟨-, -, -, e⟩ | e := sequencerPart_cases s t
  · rwa [e, hp, phaseInstr, resultOf_idle, if_neg (by simp [h.slot])]
  · rwa [e]

/-- Of the host's operations SEND alone fills the slot, and none writes the Signal (R25, R160). -/
theorem hostPart_waitsAt (hsend : ¬ (portInputs s).presents 2#2) (h : WaitsAt v t) :
    WaitsAt v (partResult (hostInstr s) t) := by
  obtain ⟨hacc, e⟩ | e := hostPart_cases s t
  · obtain ⟨hvalid, -⟩ := (Bool.and_eq_true _ _).mp hacc
    rw [e, portInstr]
    split
    · rw [resultOf_activate]
      split <;> exact ⟨h.phase, h.slot, h.sig⟩
    · rw [resultOf_deactivate, if_pos h.phase]
      exact ⟨rfl, h.slot, h.sig⟩
    · next hop => exact absurd ⟨hvalid, BitVec.eq_of_toNat_eq (y := 2#2) hop⟩ hsend
    · exact h
  · rwa [e]

theorem advance_waitsAt (hr : (portInputs s).rst = false) (hsend : ¬ (portInputs s).presents 2#2)
    (h : WaitsAt v s) : WaitsAt v (advance s) := by
  obtain ⟨hphase, hslot, hsig⟩ :=
    hostPart_waitsAt hsend (sequencerPart_waitsAt h.phase (carrierPart_waitsAt (s := s) h))
  rw [advance_parts hr]
  exact ⟨hphase, hslot, hsig⟩

theorem after_waitsAt (n : Nat) (hr : noReset n s) (hsend : noCommand 2#2 n s) (h : WaitsAt v s) :
    WaitsAt v (after n s) := by
  induction n generalizing s with
  | zero => exact h
  | succ n ih =>
    obtain ⟨hrNow, hrLater⟩ := noReset_succ hr
    obtain ⟨hsendNow, hsendLater⟩ := noCommand_succ hsend
    exact ih hrLater hsendLater (advance_waitsAt hrNow hsendNow h)

/-- A DEACTIVATE that cuts a frame frees the slot and leaves the Signal where the frame had it (R164). -/
theorem advance_waitsAt_of_cut (hr : (portInputs s).rst = false) (hd : deactNow s = true) (hp : s.psPhase ≠ .idle) :
    WaitsAt s.sig (advance s) := by
  rw [advance_of_step (step_of_deactivate hr hd), resultOf_deactivate, if_neg hp]
  exact ⟨rfl, rfl, rfl⟩

/-- Settles O46: the cut leaves the sequencer waiting on an empty slot, and without reset and SEND it goes on to
wait. -/
theorem cutFrameIsNeverResumed : Obligations.CutFrameIsNeverResumed := by
  intro n s io rest _ hp hio hdeact hr hsend
  rw [← portInputs_of_cons hio] at hdeact
  obtain ⟨hrNow, hrLater⟩ := noReset_succ hr
  obtain ⟨-, hsendLater⟩ := noCommand_succ hsend
  obtain ⟨hphase, hslot, hsig⟩ :=
    after_waitsAt n hrLater hsendLater (advance_waitsAt_of_cut hrNow (deactNow_of_presents hdeact) hp)
  exact ⟨hphase, hslot, hsig⟩

end Sys2Proof.Machine
end

section
/-!
PROOFS. One base cycle of the whole block, and a run of them (spec/43_system_step.md R183, R185, R187).

A base cycle is its three parts one after another, `advance_parts`. That they read the cycle's first state (R183) is
that none writes what a later one reads: the sequencer's view is not the carrier's to write, and the host finds its
own elements as the cycle began, and an empty slot empty.
-/

namespace Sys2Proof.Machine

variable {s t : State}

/-! ### The step answers (R185) -/

theorem step_eq_advance (s : State) : step s = .next (advance s) := by
  cases hr : (portInputs s).rst with
  | true => rw [step_reset hr, advance_reset hr]
  | false => rw [step_parts hr, advance_parts hr]

/-- Settles O32. -/
theorem stepIsTotal : Obligations.StepIsTotal := fun s => ⟨advance s, step_eq_advance s⟩

/-- A run goes through the base cycle that its first step answers. -/
theorem core_run_succ (M : Host.Core) {u v : M.State} (n : Nat) (h : M.step u = .next v) :
    M.run (n + 1) u = M.run n v := by
  rw [Host.Core.run, h]

/-- Settles O33, by induction on the number of base cycles. -/
theorem runIsAfter : Obligations.RunIsAfter := by
  intro n
  induction n with
  | zero => exact fun _ => rfl
  | succ n ih =>
    intro s
    exact (core_run_succ Sys2Proof.core n (step_eq_advance s)).trans (ih (advance s))

/-! ### The instructions of a cycle (R183) -/

theorem runsIf_partResult (b : Bool) (i : Instr) (s : State) :
    runsIf b i s (partResult (if b then some i else none) s) := by
  cases b with
  | false => rfl
  | true => exact exec_eq_resultOf i s

theorem runsIf_carrierPart {g : Instr} (hg : decode ⟨.g, (stepCode s.cgStep).toNat⟩ = .ok g) (t : State) :
    runsIf (enginesGo s && carEn s) g t (partResult (carrierInstr s) t) := by
  obtain rfl : stepInstr s.cgStep = g := Except.ok.inj ((decode_stepCode _).symm.trans hg)
  rw [carrierInstr_eq]
  exact runsIf_partResult _ _ t

theorem runsIf_sequencerPart {p : Instr} (hp : decode ⟨.p, (phaseCode s.psPhase).toNat⟩ = .ok p) (t : State) :
    runsIf (enginesGo s && tickEn s) p t (partResult (sequencerInstr s) t) := by
  obtain rfl : phaseInstr s.psPhase = p := Except.ok.inj ((decode_phaseCode _).symm.trans hp)
  rw [sequencerInstr_eq]
  exact runsIf_partResult _ _ t

theorem runsIf_hostPart {i : Instr} (hi : decode ⟨.h, (portWord (portInputs s)).toNat⟩ = .ok i) (t : State) :
    runsIf (accepted s) i t (partResult (hostInstr s) t) := by
  obtain rfl : portInstr (portInputs s) = i := Except.ok.inj ((decode_portWord _).symm.trans hi)
  rw [hostInstr_eq]
  exact runsIf_partResult _ _ t

/-- Settles O29: the parts are the decoded instructions, each where its condition lets it run. -/
theorem stepRunsDecodedInstructions : Obligations.StepRunsDecodedInstructions := fun _ _ _ _ hr hg hp hi =>
  ⟨_, _, _, runsIf_carrierPart hg _, runsIf_sequencerPart hp _, runsIf_hostPart hi _, step_parts hr⟩

/-! ### What the host's part can be (R82, R160) -/

/-- The host's part is nothing, or one of the four operations; a DEACTIVATE is `deact_now`, and a SEND is accepted on
an empty slot alone. -/
theorem hostInstr_cases (s : State) :
    hostInstr s = none ∨ hostInstr s = some .activate ∨ (deactNow s = true ∧ hostInstr s = some .deactivate) ∨
    hostInstr s = some .reserved ∨ ∃ a c, s.qFull = false ∧ hostInstr s = some (.send a c) := by
  rw [hostInstr_eq]
  cases hacc : accepted s with
  | false => exact .inl rfl
  | true =>
    rw [if_pos rfl, portInstr]
    split
    · exact .inr (.inl rfl)
    · next hop =>
      have hd : deactNow s = true := by simp [deactNow, hacc, BitVec.eq_of_toNat_eq (y := 1#2) hop]
      exact .inr (.inr (.inl ⟨hd, rfl⟩))
    · next hop =>
      obtain ⟨-, hready⟩ := (Bool.and_eq_true _ _).mp hacc
      have hempty : s.qFull = false := by
        simpa [cmdReady, BitVec.eq_of_toNat_eq (y := 2#2) hop] using hready
      exact .inr (.inr (.inr (.inr ⟨_, _, hempty, rfl⟩)))
    · exact .inr (.inr (.inr (.inl rfl)))

/-! ### The parts of a cycle read its first state (R183, R73) -/

theorem sequencerView_sequencerPart (s t : State) :
    sequencerView (partResult (sequencerInstr s) t) = partResult (sequencerInstr s) (sequencerView t) := by
  rw [sequencerInstr_eq, partResult_of_if, partResult_of_if, apply_ite sequencerView, sequencerView_phaseResult]

/-- The sequencer's part does not see that the carrier's ran before it (R121). -/
theorem sequencerView_sequencerPart_carrierPart (s : State) :
    sequencerView (partResult (sequencerInstr s) (partResult (carrierInstr s) s)) =
      sequencerView (partResult (sequencerInstr s) s) := by
  rw [sequencerView_sequencerPart, sequencerView_carrierPart, ← sequencerView_sequencerPart]

/-- The elements that the sequencer alone shares with DEACTIVATE are the same in both states (R20). -/
structure SameSequencer (s t : State) : Prop where
  phase : s.psPhase = t.psPhase
  count : s.psCnt = t.psCnt
  osr   : s.osr = t.osr
  bits  : s.bitsLeft = t.bitsLeft
  bit   : s.curBit = t.curBit
  outer : s.gapOuter = t.gapOuter
  inner : s.gapInner = t.gapInner

theorem sameSequencer_of_view (h : sequencerView s = sequencerView t) : SameSequencer s t where
  phase := phase_of_view h
  count := (congrArg State.psCnt h :)
  osr := (congrArg State.osr h :)
  bits := (congrArg State.bitsLeft h :)
  bit := (congrArg State.curBit h :)
  outer := (congrArg State.gapOuter h :)
  inner := (congrArg State.gapInner h :)

/-- Of the host's operations DEACTIVATE alone writes the sequencer's elements (R160, R164). -/
theorem hostPart_sameSequencer (hd : deactNow s = false) (t : State) :
    SameSequencer (partResult (hostInstr s) t) t := by
  obtain e | e | ⟨hd', -⟩ | e | ⟨a, c, -, e⟩ := hostInstr_cases s
  · rw [e]
    exact sameSequencer_of_view rfl
  · rw [e, partResult_some, resultOf_activate]
    split <;> exact ⟨rfl, rfl, rfl, rfl, rfl, rfl, rfl⟩
  · exact absurd (hd'.symm.trans hd) (by decide)
  · rw [e]
    exact sameSequencer_of_view rfl
  · rw [e, partResult_some, resultOf_send]
    split <;> exact ⟨rfl, rfl, rfl, rfl, rfl, rfl, rfl⟩

/-- In a base cycle without reset and DEACTIVATE the sequencer's elements are those its own part gives. -/
theorem advance_sameSequencer (hr : (portInputs s).rst = false) (hd : deactNow s = false) :
    SameSequencer (advance s) (partResult (sequencerInstr s) s) := by
  obtain ⟨hphase, hcount, hosr, hbits, hbit, houter, hinner⟩ :=
    hostPart_sameSequencer hd (partResult (sequencerInstr s) (partResult (carrierInstr s) s))
  obtain ⟨hphase', hcount', hosr', hbits', hbit', houter', hinner'⟩ :=
    sameSequencer_of_view (sequencerView_sequencerPart_carrierPart s)
  rw [advance_parts hr]
  exact ⟨hphase.trans hphase', hcount.trans hcount', hosr.trans hosr', hbits.trans hbits', hbit.trans hbit',
    houter.trans houter', hinner.trans hinner'⟩

/-- No phase fills the slot (R62, R69). -/
theorem phaseResult_empty (p : Phase) (h : s.qFull = false) : (resultOf (phaseInstr p) s).qFull = false := by
  have htimed (u : State) (hu : u.qFull = false) : (timedPhase s u).qFull = false := by
    obtain ⟨-, e⟩ | ⟨-, e⟩ := timedPhase_cases s u <;> rw [e]
    · exact h
    · exact hu
  cases p with
  | idle => rwa [phaseInstr, resultOf_idle, if_neg (by simp [h])]
  | leaderPulse | leaderSpace | bitPulse | stopBit => exact htimed _ h
  | bitSpace =>
    refine htimed _ ?_
    split <;> exact h
  | gap =>
    refine htimed _ ?_
    split
    · exact h
    · split
      · exact h
      · rfl

theorem sequencerPart_empty (h : t.qFull = false) : (partResult (sequencerInstr s) t).qFull = false := by
  obtain ⟨-, -, -, e⟩ | e := sequencerPart_cases s t <;> rw [e]
  · exact phaseResult_empty _ h
  · exact h

theorem sequencerPart_qWord (s t : State) : (partResult (sequencerInstr s) t).qWord = t.qWord := by
  obtain ⟨-, -, -, e⟩ | e := sequencerPart_cases s t <;> simp [e]

/-- `t` has what the host's part reads in `s`, but for the phase at a DEACTIVATE: the platform, the host's own elements,
and an empty slot where `s` has one. -/
structure SameForHost (s t : State) : Prop where
  active : t.active = s.active
  cfgErr : t.cfgErr = s.cfgErr
  word   : t.qWord = s.qWord
  params : t.params = s.params
  empty  : s.qFull = false → t.qFull = false

/-- The engines' parts leave the host what it reads. -/
theorem sameForHost_engines (s : State) :
    SameForHost s (partResult (sequencerInstr s) (partResult (carrierInstr s) s)) where
  active := (sequencerPart_active s _).trans (carrierPart_active s s)
  cfgErr := (sequencerPart_cfgErr s _).trans (carrierPart_cfgErr s s)
  word := (sequencerPart_qWord s _).trans (congrArg State.qWord (sequencerView_carrierPart s s) :)
  params := (sequencerPart_params s _).trans (carrierPart_params s s)
  empty := fun h => sequencerPart_empty (t := partResult (carrierInstr s) s)
    ((qFull_of_view (sequencerView_carrierPart s s)).trans h)

/-- The elements that the host alone writes (R20) come out of its part as from what it reads. -/
theorem hostPart_hostElements (h : SameForHost s t) :
    (partResult (hostInstr s) t).active = (partResult (hostInstr s) s).active ∧
    (partResult (hostInstr s) t).cfgErr = (partResult (hostInstr s) s).cfgErr ∧
    (partResult (hostInstr s) t).qWord = (partResult (hostInstr s) s).qWord := by
  obtain ⟨hactive, hcfg, hword, hparams, hempty⟩ := h
  obtain e | e | ⟨-, e⟩ | e | ⟨a, c, hslot, e⟩ := hostInstr_cases s <;> rw [e]
  · exact ⟨hactive, hcfg, hword⟩
  · rw [partResult_some, partResult_some, resultOf_activate, resultOf_activate, hparams]
    split
    · exact ⟨rfl, hcfg, hword⟩
    · exact ⟨hactive, rfl, hword⟩
  · rw [partResult_some, partResult_some, resultOf_deactivate, resultOf_deactivate]
    refine ⟨rfl, ?_, ?_⟩ <;> split <;> split <;> assumption
  · exact ⟨hactive, hcfg, hword⟩
  · rw [partResult_some, partResult_some, resultOf_send, resultOf_send, hslot, hempty hslot]
    exact ⟨hactive, hcfg, rfl⟩

/-- A DEACTIVATE runs alone (R204). -/
theorem advance_of_deactNow (hr : (portInputs s).rst = false) (hd : deactNow s = true) :
    carrierInstr s = none ∧ sequencerInstr s = none ∧ advance s = endCycle (partResult (hostInstr s) s) := by
  have hcar : carrierInstr s = none := by simp [carrierInstr_eq, enginesGo, hd]
  have hseq : sequencerInstr s = none := by simp [sequencerInstr_eq, enginesGo, hd]
  exact ⟨hcar, hseq, by rw [advance_parts hr, hseq, hcar, partResult_none, partResult_none]⟩

/-- The slot's occupancy is the host's where the host writes it, and the sequencer's elsewhere (notes/assumptions/5.md).
A DEACTIVATE has no sequencer's part beside it. -/
theorem advance_qFull (hr : (portInputs s).rst = false) :
    (advance s).qFull = if (partResult (hostInstr s) s).qFull = s.qFull then (partResult (sequencerInstr s) s).qFull
      else (partResult (hostInstr s) s).qFull := by
  have hview := qFull_of_view (sequencerView_sequencerPart_carrierPart s)
  obtain ⟨-, -, -, -, hempty⟩ := sameForHost_engines s
  rw [advance_parts hr, endCycle_qFull]
  obtain e | e | ⟨hd, e⟩ | e | ⟨a, c, hslot, e⟩ := hostInstr_cases s <;> rw [e]
  · rw [partResult_none, partResult_none, hview, if_pos rfl]
  · rw [partResult_some, partResult_some, resultOf_activate, resultOf_activate, apply_ite State.qFull,
      apply_ite State.qFull]
    simp [hview]
  · obtain ⟨hcar, hseq, -⟩ := advance_of_deactNow hr hd
    rw [hseq, hcar, partResult_none, partResult_none]
    split
    · assumption
    · rfl
  · rw [partResult_some, partResult_some, resultOf_reserved, resultOf_reserved, hview, if_pos rfl]
  · rw [partResult_some, partResult_some, resultOf_send, resultOf_send, hslot, hempty hslot]
    rfl

/-- The carrier's elements are DEACTIVATE's where one is accepted, and the carrier's own part's elsewhere. -/
theorem advance_carrierElements (hr : (portInputs s).rst = false) : SameCarrier (advance s)
    (if deactNow s then partResult (hostInstr s) s else partResult (carrierInstr s) s) := by
  split
  · next hd =>
    obtain ⟨-, -, e⟩ := advance_of_deactNow hr hd
    rw [e]
    exact ⟨rfl, rfl, rfl⟩
  · next hd => exact advance_sameCarrier hr (Bool.eq_false_iff.2 hd)

/-- The sequencer's elements are DEACTIVATE's where one is accepted, and the sequencer's own part's elsewhere. -/
theorem advance_sequencerElements (hr : (portInputs s).rst = false) : SameSequencer (advance s)
    (if deactNow s then partResult (hostInstr s) s else partResult (sequencerInstr s) s) := by
  split
  · next hd =>
    obtain ⟨-, -, e⟩ := advance_of_deactNow hr hd
    rw [e]
    exact sameSequencer_of_view rfl
  · next hd => exact advance_sameSequencer hr (Bool.eq_false_iff.2 hd)

/-- Of the parts of a base cycle without reset the sequencer's alone writes the Signal (R25). -/
theorem advance_sig (hr : (portInputs s).rst = false) : (advance s).sig = (partResult (sequencerInstr s) s).sig := by
  rw [advance_parts hr, endCycle_sig, ← sig_of_view (sequencerView_sequencerPart_carrierPart s)]
  obtain ⟨-, e⟩ | e := hostPart_cases s (partResult (sequencerInstr s) (partResult (carrierInstr s) s)) <;> rw [e]
  exact hostResult_sig _ _

/-- Settles O30, owner by owner. -/
theorem partsReadTheCyclesStart : Obligations.PartsReadTheCyclesStart := by
  intro s g p i hr hg hp hi
  obtain ⟨hactive, hcfg, hword⟩ := hostPart_hostElements (sameForHost_engines s)
  obtain ⟨hstep, hclocks, -⟩ := advance_carrierElements hr
  obtain ⟨hphase, hcount, hosr, hbits, hbit, houter, hinner⟩ := advance_sequencerElements hr
  have hparts := advance_parts hr
  exact ⟨_, _, _, _, runsIf_carrierPart hg s, runsIf_sequencerPart hp s, runsIf_hostPart hi s, step_eq_advance s,
    hparts ▸ hactive, hparts ▸ hcfg, hparts ▸ hword, advance_qFull hr, advance_sig hr, advance_pin hr, hstep, hclocks,
    hphase, hcount, hosr, hbits, hbit, houter, hinner, advance_carDiv s hr, advance_tickDiv s hr, advance_params s,
    advance_inputs s⟩

/-! ### A clean end (R187) -/

theorem quietFor_succ {n : Nat} (h : quietFor (n + 1) s) :
    ((portInputs s).rst = false ∧ (portInputs s).valid = false) ∧ quietFor n (advance s) :=
  forall_inputs_succ (P := fun io => io.rst = false ∧ io.valid = false) ⟨rfl, rfl⟩ h

/-- At a clean end the engines are stopped, or CG_WAIT finds the Signal `SET` and changes nothing. -/
theorem carrierPart_of_cleanEnd (h : cleanEnd s) : partResult (carrierInstr s) s = s := by
  obtain ⟨-, -, hrests⟩ := h
  obtain ⟨ha, -, -, e⟩ | e := carrierPart_cases s s
  · obtain hstopped | ⟨hwait, hset⟩ := hrests
    · exact absurd (ha.symm.trans hstopped) (by decide)
    · rw [e, hwait, stepInstr, resultOf_cgWait, if_neg (by simp [signalCleared, hset])]
  · exact e

/-- At a clean end IDLE finds the slot empty and changes nothing. -/
theorem sequencerPart_of_cleanEnd (h : cleanEnd s) : partResult (sequencerInstr s) s = s := by
  obtain ⟨hphase, hslot, -⟩ := h
  obtain ⟨-, -, -, e⟩ | e := sequencerPart_cases s s
  · rw [e, hphase, phaseInstr, resultOf_idle, if_neg (by simp [hslot])]
  · exact e

/-- A base cycle in which the host does nothing is, at a clean end, only its end. -/
theorem advance_of_cleanEnd (h : cleanEnd s) (hr : (portInputs s).rst = false) (hv : (portInputs s).valid = false) :
    advance s = endCycle s := by
  rw [advance_parts hr, carrierPart_of_cleanEnd h, sequencerPart_of_cleanEnd h, hostInstr_of_not_valid hv,
    partResult_none]

/-- Settles O47, by induction on the number of base cycles: the end of a cycle leaves the end clean. -/
theorem cleanEndIsStable : Obligations.CleanEndIsStable := by
  intro n
  induction n with
  | zero => exact fun _ _ _ => rfl
  | succ n ih =>
    intro s h hq
    obtain ⟨⟨hr, hv⟩, hlater⟩ := quietFor_succ hq
    have hend := advance_of_cleanEnd h hr hv
    rw [hend] at hlater
    have hstays := ih (endCycle s) h hlater
    rw [after_succ, hend, ← List.drop_tail]
    exact hstays

end Sys2Proof.Machine
end

section
/-!
PROOFS. The tick-level view (spec/43_system_step.md R184, R188; spec/41_protocol_sequencer.md R147, R153).

In the sequencer's view a base cycle of an active block is a tick of the sequencer alone, where it is a tick at all,
with the cycle's SEND in the slot after it. Followed from tick to tick this is `ticksAlone`. A frame's slot is full, so
there the sequencer alone is the block that no SEND reaches, of which the timeline is already known.
-/

namespace Sys2Proof.Machine

variable {s t : State}

/-! ### The sequencer alone -/

@[simp] theorem fillSlot_active (f : Option CodeWord) (s : State) : (fillSlot f s).active = s.active := by
  obtain ⟨e, -⟩ | ⟨w, -, -, e⟩ := fillSlot_cases f s <;> rw [e]
  rfl

@[simp] theorem fillSlot_psPhase (f : Option CodeWord) (s : State) : (fillSlot f s).psPhase = s.psPhase := by
  obtain ⟨e, -⟩ | ⟨w, -, -, e⟩ := fillSlot_cases f s <;> rw [e]
  rfl

theorem fillSlot_some_qFull (w : CodeWord) (s : State) : (fillSlot (some w) s).qFull = true := by
  obtain ⟨e, hnone | hfull⟩ | ⟨v, -, -, e⟩ := fillSlot_cases (some w) s
  · cases hnone
  · rw [e, hfull]
  · rw [e, queueWrite_qFull]

/-- Of two words offered to the slot one after the other it takes the first (R62). -/
theorem fillSlot_fillSlot (f g : Option CodeWord) (s : State) : fillSlot g (fillSlot f s) = fillSlot (f.or g) s := by
  cases f with
  | none => rw [fillSlot_none, Option.none_or]
  | some w => rw [fillSlot_full (fillSlot_some_qFull w s), Option.some_or]

/-- A tick of the sequencer alone is one with no word, on the slot as it was filled. -/
theorem tickAlone_eq_fillSlot (f : Option CodeWord) (s : State) : tickAlone f s = tickAlone none (fillSlot f s) := by
  rw [tickAlone_eq, tickAlone_eq, fillSlot_none, fillSlot_psPhase]

theorem tickAlone_active (f : Option CodeWord) (s : State) : (tickAlone f s).active = s.active := by
  rw [tickAlone_eq, phaseResult_active, fillSlot_active]

/-! ### The sequencer alone works in its own view -/

theorem sequencerView_fillSlot (f : Option CodeWord) (s : State) :
    sequencerView (fillSlot f s) = fillSlot f (sequencerView s) := by
  cases f with
  | none => rfl
  | some w => exact apply_ite sequencerView _ _ _

theorem sequencerView_tickAlone (f : Option CodeWord) (s : State) :
    sequencerView (tickAlone f s) = tickAlone f (sequencerView s) := by
  rw [tickAlone_eq, sequencerView_phaseResult, sequencerView_fillSlot, tickAlone_eq, sequencerView_psPhase]

theorem sequencerView_ticksAlone (fs : List (Option CodeWord)) (s : State) :
    sequencerView (ticksAlone fs s) = ticksAlone fs (sequencerView s) := by
  induction fs generalizing s with
  | nil => rfl
  | cons f fs ih => rw [ticksAlone_cons, ih, sequencerView_tickAlone, ticksAlone_cons]

theorem fillSlot_congr (h : sequencerView s = sequencerView t) (f : Option CodeWord) :
    sequencerView (fillSlot f s) = sequencerView (fillSlot f t) := by
  rw [sequencerView_fillSlot, h, ← sequencerView_fillSlot]

theorem tickAlone_congr (h : sequencerView s = sequencerView t) (f : Option CodeWord) :
    sequencerView (tickAlone f s) = sequencerView (tickAlone f t) := by
  rw [sequencerView_tickAlone, h, ← sequencerView_tickAlone]

theorem ticksAlone_congr (h : sequencerView s = sequencerView t) (fs : List (Option CodeWord)) :
    sequencerView (ticksAlone fs s) = sequencerView (ticksAlone fs t) := by
  rw [sequencerView_ticksAlone, h, ← sequencerView_ticksAlone]

/-! ### One base cycle in the sequencer's view (R184) -/

/-- In an active block the host's part, without a DEACTIVATE, is the cycle's SEND and nothing else: ACTIVATE finds the
engines running (R163), and the reserved code does nothing (R170). -/
theorem hostPart_eq_fillSlot (hr : (portInputs s).rst = false) (hd : deactNow s = false) (ha : t.active = true)
    (hok : t.params.cfgOk = true) : partResult (hostInstr s) t = fillSlot (sentWord s) t := by
  obtain e | e | ⟨hd', -⟩ | e | ⟨a, c, -, e⟩ := hostInstr_cases s
  · have hsent : sentWord s = none := by simp [sentWord, hr, e]
    rw [e, hsent, partResult_none, fillSlot_none]
  · have hsent : sentWord s = none := by simp [sentWord, hr, e]
    rw [e, hsent, partResult_some, resultOf_activate, if_pos hok, startEngines_of_active ha, fillSlot_none]
  · exact absurd (hd'.symm.trans hd) (by decide)
  · have hsent : sentWord s = none := by simp [sentWord, hr, e]
    rw [e, hsent, partResult_some, resultOf_reserved, fillSlot_none]
  · have hsent : sentWord s = some (codeWord a c) := by simp [sentWord, hr, e]
    rw [e, hsent]
    rfl

/-- A base cycle of an active block is, to the sequencer, its tick where it is one, and then the cycle's SEND. -/
theorem sequencerView_advance (h : Inv s) (ha : s.active = true) (hr : (portInputs s).rst = false)
    (hd : deactNow s = false) : sequencerView (advance s) =
      sequencerView (fillSlot (sentWord s) (if tickEn s then tickAlone none s else s)) := by
  obtain ⟨-, -, hrunsOnlyWhereOk⟩ := h.failed
  have hok : s.params.cfgOk = true := hrunsOnlyWhereOk ha
  have hgo : enginesGo s = true := enginesGo_iff.2 ⟨ha, hd⟩
  have hengines := sameForHost_engines s
  have hseq : partResult (sequencerInstr s) s = if tickEn s then tickAlone none s else s := by
    rw [sequencerInstr_eq, hgo, Bool.true_and, partResult_of_if, tickAlone_eq, fillSlot_none]
  rw [advance_parts hr, sequencerView_endCycle, hostPart_eq_fillSlot hr hd (hengines.active.trans ha)
    ((congrArg Params.cfgOk hengines.params).trans hok), ← hseq]
  exact fillSlot_congr (sequencerView_sequencerPart_carrierPart s) _

theorem sequencerView_advance_of_no_tick (h : Inv s) (ha : s.active = true) (hr : (portInputs s).rst = false)
    (hd : deactNow s = false) (ht : tickEn s = false) :
    sequencerView (advance s) = sequencerView (fillSlot (sentWord s) s) := by
  rw [sequencerView_advance h ha hr hd, ht, if_neg Bool.false_ne_true]

theorem sequencerView_advance_of_tick (h : Inv s) (ha : s.active = true) (hr : (portInputs s).rst = false)
    (hd : deactNow s = false) (ht : tickEn s = true) :
    sequencerView (advance s) = sequencerView (fillSlot (sentWord s) (tickAlone none s)) := by
  rw [sequencerView_advance h ha hr hd, if_pos ht]

theorem advance_active (h : Inv s) (ha : s.active = true) (hr : (portInputs s).rst = false)
    (hd : deactNow s = false) : (advance s).active = true := by
  rw [active_of_view (sequencerView_advance h ha hr hd), fillSlot_active]
  split
  · rw [tickAlone_active, ha]
  · exact ha

theorem after_active {n : Nat} (h : Inv s) (ha : s.active = true) (hu : undisturbed n s) :
    (after n s).active = true := by
  induction n generalizing s with
  | zero => exact ha
  | succ n ih =>
    obtain ⟨hr, hd, hlater⟩ := undisturbed_succ hu
    exact ih (advance_inv h) (advance_active h ha hr hd) hlater

theorem nextTickIn_after {j k : Nat} (hj : nextTickIn (j + k) s) (hu : undisturbed k s) :
    nextTickIn j (after k s) := by
  induction k generalizing s with
  | zero => exact hj
  | succ k ih =>
    obtain ⟨hr, -, hlater⟩ := undisturbed_succ hu
    exact ih (nextTickIn_advance hr hj) hlater

/-! ### From tick to tick (R188) -/

/-- Whether the slot is filled in a stretch is known from its first cycle and the rest. -/
theorem slotFilled_succ (m : Nat) (s : State) :
    slotFilled (m + 1) s = (sentWord s).or (slotFilled m (advance s)) := by
  rw [slotFilled]
  cases sentWord s <;> rfl

/-- Up to the next tick only the slot moves, by the first SEND. -/
theorem sequencerView_to_tick {j m : Nat} (h : Inv s) (ha : s.active = true) (hj : nextTickIn j s) (hm : m ≤ j)
    (hu : undisturbed m s) : sequencerView (after m s) = sequencerView (fillSlot (slotFilled m s) s) := by
  induction m generalizing j s with
  | zero => rfl
  | succ m ih =>
    obtain ⟨hr, hd, hlater⟩ := undisturbed_succ hu
    obtain ⟨j, rfl⟩ := Nat.exists_eq_add_one.2 (Nat.lt_of_lt_of_le (Nat.succ_pos m) hm)
    have hnow := sequencerView_advance_of_no_tick h ha hr hd (tickEn_of_nextTickIn_succ h hj)
    have hrest := ih (advance_inv h) (advance_active h ha hr hd) (nextTickIn_advance hr hj)
      (Nat.le_of_succ_le_succ hm) hlater
    rw [after_succ, hrest, fillSlot_congr hnow, fillSlot_fillSlot, slotFilled_succ]

/-- Into the period that a tick begins: the phase has run once, and the slot is filled from that very cycle on. -/
theorem sequencerView_from_tick {m : Nat} (h : Inv s) (ha : s.active = true) (ht : nextTickIn 0 s) (hpos : 1 ≤ m)
    (hm : m ≤ 38) (hu : undisturbed m s) :
    sequencerView (after m s) = sequencerView (fillSlot (slotFilled m s) (tickAlone none s)) := by
  obtain ⟨m, rfl⟩ := Nat.exists_eq_add_one.2 hpos
  obtain ⟨hr, hd, hlater⟩ := undisturbed_succ hu
  have hnow := sequencerView_advance_of_tick h ha hr hd (tickEn_of_nextTickIn_zero h ht)
  have hrest := sequencerView_to_tick (advance_inv h) (advance_active h ha hr hd) (nextTickIn_advance_of_tick hr ht)
    (Nat.le_of_succ_le_succ hm) hlater
  rw [after_succ, hrest, fillSlot_congr hnow, fillSlot_fillSlot, slotFilled_succ]

/-- A tick has the next one 38 base cycles later. -/
theorem nextTickIn_period (hu : undisturbed 38 s) (ht : nextTickIn 0 s) : nextTickIn 0 (after 38 s) := by
  obtain ⟨hr, -, hlater⟩ := undisturbed_succ hu
  have hnext := nextTickIn_after (j := 0) (k := 37) (nextTickIn_advance_of_tick hr ht) hlater
  rwa [← after_succ, show 37 + 1 = 38 from rfl] at hnext

/-- From a tick on: `n` whole periods later, and `m` base cycles into the next one. -/
theorem sequencerView_from_tick_periods {n m : Nat} (h : Inv s) (ha : s.active = true) (ht : nextTickIn 0 s)
    (hpos : 1 ≤ m) (hm : m ≤ 38) (hu : undisturbed (38 * n + m) s) :
    sequencerView (after (38 * n + m) s) = sequencerView
      (fillSlot (slotFilled m (after (38 * n) s)) (ticksAlone (tickInputs 38 n s) (tickAlone none s))) := by
  induction n generalizing s with
  | zero =>
    rw [Nat.mul_zero, Nat.zero_add] at hu ⊢
    exact sequencerView_from_tick h ha ht hpos hm hu
  | succ n ih =>
    rw [show 38 * (n + 1) + m = 38 + (38 * n + m) by omega] at hu ⊢
    obtain ⟨hperiod, hlater⟩ := undisturbed_add hu
    have hview := sequencerView_from_tick h ha ht (by decide) (Nat.le_refl 38) hperiod
    have hrest := ih (after_inv 38 h) (after_active h ha hperiod) (nextTickIn_period hperiod ht) hlater
    have htick := tickAlone_congr hview none
    rw [← tickAlone_eq_fillSlot] at htick
    rw [after_add, hrest, fillSlot_congr (ticksAlone_congr htick _), show 38 * (n + 1) = 38 + 38 * n by omega,
      after_add]
    rfl

/-- From any base cycle on: up to the next tick, `j` base cycles away, and then from it. -/
theorem sequencerView_after {j n m : Nat} (h : Inv s) (ha : s.active = true) (hj : nextTickIn j s)
    (hpos : 1 ≤ m) (hm : m ≤ 38) (hu : undisturbed (j + 38 * n + m) s) :
    sequencerView (after (j + 38 * n + m) s) = sequencerView
      (fillSlot (slotFilled m (after (j + 38 * n) s)) (ticksAlone (tickInputs j (n + 1) s) s)) := by
  rw [Nat.add_assoc] at hu ⊢
  obtain ⟨hbefore, hlater⟩ := undisturbed_add hu
  have hview := sequencerView_to_tick h ha hj (Nat.le_refl j) hbefore
  have ht : nextTickIn 0 (after j s) := nextTickIn_after (by rwa [Nat.zero_add]) hbefore
  have htick := tickAlone_congr hview none
  rw [← tickAlone_eq_fillSlot] at htick
  rw [after_add, sequencerView_from_tick_periods (after_inv j h) (after_active h ha hbefore) ht hpos hm hlater,
    fillSlot_congr (ticksAlone_congr htick _), after_add]
  rfl

/-! ### A frame in the sequencer's own ticks (R147, R153) -/

theorem withInputs_inv (h : Inv s) (l : List Inputs) : Inv (withInputs l s) := { h with }

theorem undisturbed_withInputs_nil (n : Nat) (s : State) : undisturbed n (withInputs [] s) := by
  simp [undisturbed, noReset, noCommand, withInputs]

/-- A tick period of an active block with a full slot: whatever the sequencer alone is offered, it keeps in step. -/
theorem tickAlone_of_full (h : Inv s) (ha : s.active = true) (hfull : s.qFull = true) (hj : nextTickIn 37 s)
    (hu : undisturbed 38 s) (f : Option CodeWord) :
    sequencerView (after 38 s) = sequencerView (tickAlone f s) ∧ nextTickIn 37 (after 38 s) := by
  obtain ⟨-, hruns, hperiod⟩ := nextTick_runs_phase h ha hfull hj hu
  rw [show 37 + 1 = 38 from rfl] at hruns hperiod
  refine ⟨hruns.trans ?_, hperiod⟩
  rw [tickAlone_eq, fillSlot_full hfull, sequencerView_phaseResult]

/-- Through a frame the sequencer alone, whatever it is offered, is the block whose host is quiet. -/
theorem ticksAlone_of_frameBegins (h : Inv s) (hf : frameBegins s) (fs : List (Option CodeWord))
    (hlen : fs.length ≤ frameTicks s.qWord) :
    sequencerView (ticksAlone fs s) = sequencerView (after (38 * fs.length) (withInputs [] s)) ∧
    nextTickIn 37 (after (38 * fs.length) (withInputs [] s)) := by
  have hquiet (n : Nat) : undisturbed n (withInputs [] s) := undisturbed_withInputs_nil n s
  have hinv := withInputs_inv h []
  obtain ⟨hheld, -⟩ := slotIsHeldForTheWholeFrame (withInputs [] s) hinv hf (hquiet _)
  obtain ⟨ha, -, -, hperiod⟩ := id hf
  induction fs using List.reverseRecOn with
  | nil => exact ⟨rfl, hperiod⟩
  | append_singleton fs f ih =>
    rw [List.length_append, List.length_singleton] at hlen ⊢
    obtain ⟨hview, htick⟩ := ih (by omega)
    obtain ⟨hready, -⟩ := hheld (38 * fs.length) (Nat.mul_lt_mul_of_pos_left hlen (by decide))
    have hfull : (after (38 * fs.length) (withInputs [] s)).qFull = true := by simpa [cmdReady_send] using hready
    obtain ⟨-, hlater⟩ := undisturbed_add (hquiet (38 * fs.length + 38))
    obtain ⟨hruns, hnext⟩ :=
      tickAlone_of_full (after_inv _ hinv) (after_active hinv ha (hquiet _)) hfull htick hlater f
    rw [Nat.mul_succ, after_add, ticksAlone_append]
    exact ⟨(tickAlone_congr hview f).trans hruns.symm, hnext⟩

/-- The sequencer alone is on the timeline of R147 at every tick of a frame, and the word in the slot stays. -/
theorem ticksAlone_on_timeline (h : Inv s) (hf : frameBegins s) (fs : List (Option CodeWord))
    (hlen : fs.length < frameTicks s.qWord) :
    ∃ x, symbolAt (frameSymbols s.qWord) fs.length = some x ∧
      (ticksAlone fs s).psPhase = x.phase ∧ (ticksAlone fs s).sig = x.sig ∧ (ticksAlone fs s).qWord = s.qWord := by
  have hquiet (n : Nat) : undisturbed n (withInputs [] s) := undisturbed_withInputs_nil n s
  have hinv := withInputs_inv h []
  have hcycles : 38 * fs.length < 38 * frameTicks s.qWord := Nat.mul_lt_mul_of_pos_left hlen (by decide)
  obtain ⟨hview, -⟩ := ticksAlone_of_frameBegins h hf fs (Nat.le_of_lt hlen)
  obtain ⟨x, hforce, hphase, hsig⟩ := frameFollowsTheTimeline _ (withInputs [] s) hinv hf hcycles (hquiet _)
  obtain ⟨hheld, -⟩ := slotIsHeldForTheWholeFrame (withInputs [] s) hinv hf (hquiet _)
  obtain ⟨-, hword⟩ := hheld _ hcycles
  rw [Nat.mul_div_cancel_left _ (by decide)] at hforce
  exact ⟨x, hforce, (phase_of_view hview).trans hphase, (sig_of_view hview).trans hsig,
    (congrArg State.qWord hview :).trans hword⟩

/-- After a frame's ticks the sequencer alone waits in IDLE on an empty slot, with the Signal `SET`. -/
theorem ticksAlone_waitsAt (h : Inv s) (hf : frameBegins s) (fs : List (Option CodeWord))
    (hlen : fs.length = frameTicks s.qWord) : WaitsAt .set (ticksAlone fs s) := by
  obtain ⟨hview, -⟩ := ticksAlone_of_frameBegins h hf fs (Nat.le_of_eq hlen)
  obtain ⟨-, hready, hphase, hsig⟩ := slotIsHeldForTheWholeFrame (withInputs [] s) (withInputs_inv h []) hf
    (undisturbed_withInputs_nil _ s)
  rw [hlen] at hview
  rw [cmdReady_send, Bool.not_eq_true'] at hready
  exact ⟨(phase_of_view hview).trans hphase, (qFull_of_view hview).trans hready, (sig_of_view hview).trans hsig⟩

/-- A waiting sequencer whose slot is not filled goes on to wait. -/
theorem tickAlone_none_of_waitsAt {v : Signal} (h : WaitsAt v s) : tickAlone none s = s := by
  rw [tickAlone_eq, fillSlot_none, h.phase, phaseInstr, resultOf_idle, if_neg (by simp [h.slot])]

/-- A waiting sequencer whose slot is filled begins the leader of the word (R130). -/
theorem tickAlone_some_of_waitsAt {v : Signal} (h : WaitsAt v s) (w : CodeWord) : tickAlone (some w) s =
    enterPhase (signalWrite (loadShiftRegister (queueWrite s w) w) .cleared) .leaderPulse tLeaderPulse := by
  rw [tickAlone_eq, fillSlot_empty h.slot, h.phase, phaseInstr, resultOf_idle, if_pos (queueWrite_qFull s w),
    queueWrite_qWord]

/-- Settles O55: from tick to tick by `sequencerView_to_tick` and `sequencerView_after`, and through a frame by the
quiet block's timeline. -/
theorem tickLevelViewAgrees : Obligations.TickLevelViewAgrees := by
  refine ⟨fun _ _ _ h ha hj hm hu => sequencerView_to_tick h ha hj hm hu,
    fun _ _ _ _ h ha hj hpos hm hu => sequencerView_after h ha hj hpos hm hu,
    fun fs _ h hf hlen => ticksAlone_on_timeline h hf fs hlen, fun fs s h hf hlen => ?_⟩
  have hwaits := ticksAlone_waitsAt h hf fs hlen
  obtain ⟨hphase, hslot, hsig⟩ := id hwaits
  refine ⟨hphase, hsig, hslot, tickAlone_none_of_waitsAt hwaits, fun w => ?_⟩
  rw [tickAlone_some_of_waitsAt hwaits]
  exact ⟨rfl, rfl, rfl, rfl, rfl⟩

end Sys2Proof.Machine
end

section
/-!
PROOFS. What survives the inactive state (spec/60_exceptions.md R210, R230, R231).

The engines of an inactive block do not run, a DEACTIVATE finds nothing to cancel, and ACTIVATE is shut out: what is
left is a SEND that fills an empty slot. So no base cycle touches the Signal, the pin or `cfg_err`, or a word in the
slot, whatever values an earlier frame left them at.
-/

namespace Sys2Proof.Machine

variable {s : State}

/-- Neither engine has a part in the base cycle of an inactive block (R21). -/
theorem advance_of_inactive (ha : s.active = false) (hr : (portInputs s).rst = false) :
    advance s = endCycle (partResult (hostInstr s) s) := by
  have hcar : carrierInstr s = none := by simp [carrierInstr_eq, enginesGo_of_inactive ha]
  have hseq : sequencerInstr s = none := by simp [sequencerInstr_eq, enginesGo_of_inactive ha]
  rw [advance_parts hr, hcar, hseq, partResult_none, partResult_none]

/-- Of the operations other than ACTIVATE, an inactive block answers to SEND alone, and to that only on an empty slot
(R164, R166, R170). -/
theorem hostPart_of_inactive (h : Inv s) (ha : s.active = false) (hact : ¬ (portInputs s).presents 0#2) :
    partResult (hostInstr s) s = s ∨
    s.qFull = false ∧ ∃ w, partResult (hostInstr s) s = queueWrite s w := by
  obtain ⟨hacc, e⟩ | e := hostPart_cases s s
  · obtain ⟨hvalid, -⟩ := (Bool.and_eq_true _ _).mp hacc
    rw [e, portInstr]
    split
    · next hop => exact absurd ⟨hvalid, BitVec.eq_of_toNat_eq (y := 0#2) hop⟩ hact
    · obtain ⟨hphase, -⟩ := h.inactive ha
      rw [resultOf_deactivate, if_pos hphase, stopEngines_of_inactive h ha]
      exact .inl rfl
    · rw [resultOf_send]
      split
      · exact .inl rfl
      · next hslot => exact .inr ⟨Bool.eq_false_iff.2 hslot, _, rfl⟩
    · exact .inl rfl
  · exact .inl e

/-- `t` is inactive and has the Signal, the pin and `cfg_err` of `s`, and the word in its slot if it has one. -/
structure Preserves (s t : State) : Prop where
  active : t.active = false
  sig    : t.sig = s.sig
  pin    : t.pin = s.pin
  cfgErr : t.cfgErr = s.cfgErr
  slot   : s.qFull = true → t.qFull = true ∧ t.qWord = s.qWord

theorem Preserves.trans {t u : State} (hst : Preserves s t) (htu : Preserves t u) : Preserves s u where
  active := htu.active
  sig    := htu.sig.trans hst.sig
  pin    := htu.pin.trans hst.pin
  cfgErr := htu.cfgErr.trans hst.cfgErr
  slot   := fun hfull =>
    have ⟨htFull, htWord⟩ := hst.slot hfull
    have ⟨huFull, huWord⟩ := htu.slot htFull
    ⟨huFull, huWord.trans htWord⟩

/-- The one write that may precede the end of the cycle finds the slot empty, so it overwrites no word. -/
theorem advance_preserves (h : Inv s) (ha : s.active = false) (hr : (portInputs s).rst = false)
    (hact : ¬ (portInputs s).presents 0#2) : Preserves s (advance s) := by
  rw [advance_of_inactive ha hr]
  obtain e | ⟨hempty, w, e⟩ := hostPart_of_inactive h ha hact
  · rw [e]
    exact ⟨ha, rfl, rfl, rfl, fun hfull => ⟨hfull, rfl⟩⟩
  · rw [e]
    exact ⟨ha, rfl, rfl, rfl, fun hfull => absurd (hempty.symm.trans hfull) (by decide)⟩

theorem after_preserves (n : Nat) (h : Inv s) (ha : s.active = false) (hr : noReset n s) (hact : noCommand 0#2 n s) :
    Preserves s (after n s) := by
  induction n generalizing s with
  | zero => exact ⟨ha, rfl, rfl, rfl, fun hfull => ⟨hfull, rfl⟩⟩
  | succ n ih =>
    obtain ⟨hrNow, hrLater⟩ := noReset_succ hr
    obtain ⟨hactNow, hactLater⟩ := noCommand_succ hact
    have hcycle := advance_preserves h ha hrNow hactNow
    exact hcycle.trans (ih (advance_inv h) hcycle.active hrLater hactLater)

/-- Settles O44: the run preserves all but the phase, and that an inactive block is in IDLE is the invariant. -/
theorem inactiveBlockKeepsPinAndSignal : Obligations.InactiveBlockKeepsPinAndSignal := by
  intro n s h ha hr hact
  obtain ⟨hactive, hsig, hpin, hcfg, hslot⟩ := after_preserves n h ha hr hact
  obtain ⟨hphase, -⟩ := (after_inv n h).inactive hactive
  exact ⟨hactive, hsig, hpin, hcfg, hphase, hslot⟩

end Sys2Proof.Machine
end

section
/-!
PROOFS. The Signal's one writer, and the pin that an ACTIVATE finds high (spec/70_reset_and_hazards.md R230, R236).

A base cycle's Signal is that of the sequencer's part, and a phase writes it at a transfer alone. The pin that a
DEACTIVATE left high falls at the first carrier clock after the cycle of the ACTIVATE, because CG_LOW is then in force.
-/

namespace Sys2Proof.Machine

variable {s : State}

/-! ### The Signal's one writer (R236) -/

/-- A timed phase that does not keep the Signal makes its transfer. -/
theorem timedPhase_sig_of_ne {t : State} (h : (timedPhase s t).sig ≠ s.sig) : (timedPhase s t).sig = t.sig := by
  obtain ⟨-, e⟩ | ⟨-, e⟩ := timedPhase_cases s t
  · rw [e] at h
    exact absurd (countTick_sig s) h
  · rw [e]

/-- The phases that clear the Signal, and those that set it (R133). The Gap does neither (R146). -/
theorem phaseResult_sig_of_ne {p : Phase} (h : (resultOf (phaseInstr p) s).sig ≠ s.sig) :
    ((resultOf (phaseInstr p) s).sig = .cleared ∧ (p = .idle ∨ p = .leaderSpace ∨ p = .bitSpace)) ∨
    ((resultOf (phaseInstr p) s).sig = .set ∧ (p = .leaderPulse ∨ p = .bitPulse ∨ p = .stopBit)) := by
  cases p with
  | idle =>
    rw [phaseInstr, resultOf_idle] at h ⊢
    split at h
    · next hfull => exact .inl ⟨by rw [if_pos hfull]; rfl, .inl rfl⟩
    · exact absurd rfl h
  | leaderPulse => exact .inr ⟨timedPhase_sig_of_ne h, .inl rfl⟩
  | leaderSpace => exact .inl ⟨timedPhase_sig_of_ne h, .inr (.inl rfl)⟩
  | bitPulse => exact .inr ⟨timedPhase_sig_of_ne h, .inr (.inl rfl)⟩
  | bitSpace =>
    refine .inl ⟨(timedPhase_sig_of_ne h).trans ?_, .inr (.inr rfl)⟩
    split <;> rfl
  | stopBit => exact .inr ⟨timedPhase_sig_of_ne h, .inr (.inr rfl)⟩
  | gap =>
    refine absurd ((timedPhase_sig_of_ne h).trans ?_) h
    split
    · rfl
    · split <;> rfl

/-- Settles O38: a cycle that changes the Signal runs a phase, which makes its transfer. -/
theorem signalHasOneWriter : Obligations.SignalHasOneWriter := by
  intro s t hstep hchanged hr
  have hsig : t.sig = (partResult (sequencerInstr s) s).sig := advance_of_step hstep ▸ advance_sig hr
  rw [hsig] at hchanged ⊢
  obtain ⟨hactive, hdeact, htick, hruns⟩ | hrests := sequencerPart_cases s s
  · rw [hruns] at hchanged ⊢
    exact ⟨hactive, htick, hdeact, phaseResult_sig_of_ne hchanged⟩
  · exact absurd (congrArg State.sig hrests) hchanged

/-! ### A pin left high, after the next ACTIVATE (R230) -/

theorem hostInstr_of_activate (hp : (portInputs s).presents 0#2) : hostInstr s = some .activate := by
  obtain ⟨hvalid, hop⟩ := hp
  simp [hostInstr_eq, accepted, cmdReady, portInstr, hvalid, hop]

/-- The cycle that accepts an ACTIVATE starts the engines and runs neither (R162, R183). -/
theorem advance_of_activate (ha : s.active = false) (hok : s.params.cfgOk = true) (hr : (portInputs s).rst = false)
    (hp : (portInputs s).presents 0#2) : (advance s).active = true ∧ SameCarrier (advance s) s := by
  rw [advance_of_inactive ha hr, hostInstr_of_activate hp, partResult_some, resultOf_activate, if_pos hok]
  exact ⟨rfl, rfl, rfl, rfl⟩

/-- A running CG_LOW keeps the pin until the next carrier clock and drives it low there (R111). -/
theorem pin_after_of_low {n : Nat} (h : Inv s) (ha : s.active = true) (hg : s.cgStep = .low) (hclock : clockDelay s = n)
    (hu : undisturbed (n + 1) s) :
    (∀ j, j ≤ n → (after j s).pin = s.pin) ∧ (after (n + 1) s).pin = .low := by
  induction n generalizing s with
  | zero =>
    obtain ⟨hr, hd, -⟩ := undisturbed_succ hu
    have hsame := advance_sameCarrier_of_run h ⟨hr, ha, hd⟩
    rw [if_pos hclock, hg, stepInstr, resultOf_cgLow] at hsame
    refine ⟨fun j hj => ?_, hsame.pin⟩
    rw [Nat.le_zero.1 hj, after_zero]
  | succ n ih =>
    obtain ⟨hr, hd, hlater⟩ := undisturbed_succ hu
    have hsame := advance_sameCarrier_of_run h ⟨hr, ha, hd⟩
    rw [if_neg (by omega)] at hsame
    have hnext : clockDelay (advance s) = n := by
      have hlt := clockDelay_lt s
      rw [clockDelay_advance h hr]
      omega
    obtain ⟨hkeeps, hfalls⟩ :=
      ih (advance_inv h) (advance_active h ha hr hd) (hsame.step.trans hg) hnext hlater
    refine ⟨fun j hj => ?_, hfalls⟩
    cases j with
    | zero => rfl
    | succ j => exact (hkeeps j (Nat.le_of_succ_le_succ hj)).trans hsame.pin

/-- Settles O45: the next carrier clock comes one to five base cycles after the cycle that starts the engines. -/
theorem reactivationDrivesThePinLow : Obligations.ReactivationDrivesThePinLow := by
  intro s io rest h ha hok hhigh hio hp hu
  obtain ⟨hr, -, hlater⟩ := undisturbed_succ hu
  rw [← portInputs_of_cons hio] at hp
  obtain ⟨hstarted, hsame⟩ := advance_of_activate ha hok hr hp
  obtain ⟨-, -, hlow, -⟩ := h.inactive ha
  have hlt := clockDelay_lt (advance s)
  obtain ⟨d, hd⟩ := Nat.exists_eq_add_of_le (Nat.succ_le_of_lt hlt)
  obtain ⟨hstretch, -⟩ := undisturbed_add (hd ▸ hlater)
  obtain ⟨hkeeps, hfalls⟩ := pin_after_of_low (advance_inv h) hstarted (hsame.step.trans hlow) rfl hstretch
  refine ⟨clockDelay (advance s) + 2, by omega, by omega, fun j hj => ?_, hfalls⟩
  cases j with
  | zero => exact hhigh
  | succ j => exact (hkeeps j (by omega)).trans (hsame.pin.trans hhigh)

end Sys2Proof.Machine
end

section
/-!
PROOFS. The words that spec/95_test_vectors.md and spec/opcode_table.json write out.

Each is the number of a command word given by its three fields (R80), or the code of a phase or a step, so the laws
of the decoder on those say what it stands for.
-/

namespace Sys2Proof.Machine

/-- Settles O5: the laws `decode_command`, `decode_phaseCode` and `decode_stepCode`, each word given by its fields or
by what it is the code of; the operand fields of the first and of the fifth word are ignored (R81). -/
theorem specWordsDecode : Obligations.SpecWordsDecode :=
  ⟨decode_command (commandWord 0#2 0x1234#16 0x5678#16), decode_command (commandWord 1#2 0x0000#16 0x0000#16),
    decode_command (commandWord 2#2 0x0008#16 0x0004#16), decode_command (commandWord 2#2 0x654C#16 0x0041#16),
    decode_command (commandWord 3#2 0x5678#16 0x1234#16), decode_phaseCode .bitPulse, decode_phaseCode .gap,
    decode_stepCode .wait⟩

end Sys2Proof.Machine
end
